-- ==== Sys2Proof/Word.lean ====
section
/-! DEFINITION. The word types of the machine (spec/00_scope.md R5, R8): 8-bit data, 16-bit CPU
addresses, 14-bit picture-unit addresses. Their arithmetic is that of `BitVec`: it wraps. -/

namespace Sys2Proof

/-- The unit of every bus access and the width of A, X, Y, SP and P (R5, R49). -/
abbrev Byte := BitVec 8

/-- A CPU bus address and the width of PC (R5, R11). -/
abbrev Addr := BitVec 16

/-- A picture-unit memory address: VRAM addresses are always masked to 14 bits (R25, R319). -/
abbrev VAddr := BitVec 14

end Sys2Proof
end

