-- ==== Sys2Proof/Config.lean ====
section
/-! DEFINITION. What is fixed for a machine: the environment parameters of spec/00_scope.md R7 and the
cartridge wiring of R6, as plain data that State carries and no step changes, and the two free values: the
answer of the external audio and input devices, and the one point the spec's rules leave unresolved. -/

namespace Sys2Proof

/-- Sparse storage of `w`-bit cells: (index, value) pairs, indices strictly rising, no entry equal to
what an unlisted index reads as (Machine/Memory.lean `Memory.wf`). -/
abbrev Cells (w : Nat) := List (Nat × BitVec w)

/-- A byte memory: a list of the host's cells. -/
abbrev Memory := List Host.Cell

/-- MIRRORING, the nametable arrangement the cartridge fixes (R6, R317). -/
inductive Mirroring where
  | horizontal
  | vertical
  | fourScreen
  deriving DecidableEq, Repr

/-- PRG_BANKS, in 16 KiB units. R6 allows 1 and 2 only: a machine with any other count is not built. -/
inductive PrgBanks where
  | one
  | two
  deriving DecidableEq, Repr

/-- MAPPER_ID. R6 and R54 allow identifier 0 only: a machine with any other is not built. -/
inductive MapperId where
  | zero
  deriving DecidableEq, Repr

/-- The environment parameters of R7. They are arguments of the model: a statement about every state
holds for every value of them. -/
structure Config where
  /-- OPEN_BUS: what a CPU read of 0x4020-0x7FFF returns (R57). -/
  openBus : Byte
  /-- PPU_OPEN_BUS: what a read of a write-only picture-unit register returns; its low five bits are
  those of a status read (R326, R334). -/
  ppuOpenBus : Byte
  /-- PPUDATA_READ_BUFFERED: false, a read of register 7 is immediate; true, it is one read late (R332). -/
  dataReadBuffered : Bool
  /-- RESET_CYCLES: CPU cycles charged to a reset (R380). -/
  resetCycles : Nat
  /-- RAM_INIT: the content of RAM at power-on (R381). -/
  ramInit : Memory
  deriving DecidableEq, Repr

/-- The defaults R7 gives for the parameters, which `State.reset` takes (DESIGN CHOICE, notes/assumptions/15.md). -/
def Config.standard : Config where
  openBus := 0x00
  ppuOpenBus := 0x00
  dataReadBuffered := false
  resetCycles := 7
  ramInit := []

/-- FREE VALUE (notes/assumptions/1.md). `ext_read(a, k)` of R7 and R52: the byte the external audio unit
or joypad handler answers to the `k`-th read of the window 0x4000-0x401F, at address `a`, when State's
queue `extIn` of answers holds none. Nothing is known about it. -/
opaque Config.extRead : Nat → Addr → Byte

/-- FREE VALUE (notes/assumptions/8.md). Whether the selected sprites stay when rendering is disabled at dot 257
of a visible line: R355 and D28 say that nothing is done and the list does not move, the first line of R361's
procedure empties it. Nothing is known about it. -/
opaque Config.spritesStay : Bool

end Sys2Proof
end

