-- ==== Sys2Proof/Machine/State.lean ====
section
/-! DEFINITION. The state of the machine: every piece of state of spec/10_state.md, owned as R20 to R31
say (CPU registers, bus RAM, picture unit, cartridge), the parameters a run fixes, and the model's own
interface fields (the inputs still to come, the events just emitted). -/

namespace Sys2Proof.Machine

/-- The CPU's registers (R10 to R15) and its NMI edge detector (R17). -/
structure Cpu where
  a : Byte
  x : Byte
  y : Byte
  /-- SP; the stack byte it designates is at 0x0100 | SP (R12). -/
  sp : Byte
  /-- PC; between steps, the address of the next opcode byte (R11). -/
  pc : Addr
  /-- P, bits NV1BDIZC: bit 5 reads 1 and bit 4 reads 0 always (R14, R15). -/
  p : Byte
  /-- nmi_prev: the NMI line's level at the previous instruction boundary (R17). -/
  nmiPrev : Bool
  deriving DecidableEq, Repr

/-- One entry of `line_sprites`: a sprite selected for a scanline, its pattern row already fetched and
flipped (R28, R363). -/
structure LineSprite where
  index : BitVec 6
  x : Byte
  attr : Byte
  lo : Byte
  hi : Byte
  deriving DecidableEq, Repr

/-- The picture unit's state (R22 to R29). -/
structure Ppu where
  /-- ctrl, register 0 (R22). -/
  ctrl : Byte
  /-- mask, register 1 (R23). -/
  mask : Byte
  /-- status bit 7 (R24). -/
  vblank : Bool
  /-- status bit 6, the sprite-0 hit (R24, R368). -/
  spr0 : Bool
  /-- status bit 5, sprite overflow (R24, R362). -/
  ovf : Bool
  oamAddr : Byte
  /-- v, the current VRAM address: fine-Y, nametable, coarse-Y, coarse-X (R25). -/
  v : BitVec 15
  /-- t, the temporary VRAM address, same layout (R25). -/
  t : BitVec 15
  /-- x, the fine-X scroll (R25). -/
  x : BitVec 3
  /-- w, the toggle latch of registers 5 and 6: false, the next write is the first of a pair (R25). -/
  w : Bool
  readBuffer : Byte
  /-- NT: 2048 bytes, 4096 when the mirroring is four-screen (R26). -/
  nt : Memory
  /-- PAL: 32 bytes (R26). -/
  pal : Memory
  /-- OAM: 256 bytes (R26). -/
  oam : Memory
  scanline : Nat
  dot : Nat
  oddFrame : Bool
  /-- frame: completed frames, observation only (R27). -/
  frame : Nat
  bgLo : BitVec 16
  bgHi : BitVec 16
  atLo : BitVec 16
  atHi : BitVec 16
  ntLatch : Byte
  atLatch : BitVec 2
  patLoLatch : Byte
  patHiLatch : Byte
  lineSprites : List LineSprite
  /-- FB[y][x] at index 256 * y + x: a 6-bit colour index (R29). -/
  fb : Cells 6
  deriving DecidableEq, Repr

/-- The cartridge (R6, R30): PRG and the wiring never change; CHR changes only when it is RAM. -/
structure Cartridge where
  prg : Memory
  prgBanks : PrgBanks
  chr : Memory
  chrIsRam : Bool
  mirroring : Mirroring
  mapperId : MapperId
  deriving DecidableEq, Repr

/-- What the environment supplies at one instruction boundary: `reset_request(k)` and `irq_line(k)`,
each sampled once per driver step (R7, R390, spec/92_eei_decisions.md D33). -/
structure BoundaryInput where
  resetRequest : Bool
  irqLine : Bool
  deriving DecidableEq, Repr

/-- What the CORE emits to its collaborators (R7): a forwarded write, one audio tick per CPU cycle, a
completed frame with its copy of the frame buffer. -/
inductive Event where
  | extWrite (a : Addr) (v : Byte)
  | audioTick
  | frameReady (fb : Cells 6)
  deriving DecidableEq, Repr

/-- The whole machine. `cpu` to `cart` are the spec's state; `cfg` is its parameters; the rest are the
model's own interface to the environment (notes/assumptions/1.md to 4.md). -/
structure State where
  cpu : Cpu
  /-- RAM, 2048 bytes (R19). -/
  ram : Memory
  /-- cyc, the total of cycles since reset plus RESET_CYCLES (R18). -/
  cyc : Nat
  ppu : Ppu
  cart : Cartridge
  /-- The parameters of R7, fixed for a run. -/
  cfg : Config
  /-- `cycles` of R8: the count the current, or between steps the last, `CpuStep()` returns; 0 after a
  step that took a reset. -/
  cycles : Nat
  /-- The IRQ line's level when it was last sampled; it keeps this level when `inputs` is exhausted. -/
  irqLine : Bool
  /-- The boundary inputs still to come, the next first. -/
  inputs : List BoundaryInput
  /-- The answers still to come to reads of 0x4000-0x401F, the next first. -/
  extIn : List Byte
  /-- How many reads of 0x4000-0x401F have been made: the argument of the free value. -/
  extReads : Nat
  /-- The events the last step emitted, in the order emitted. -/
  events : List Event
  deriving DecidableEq, Repr

/-- Why a step stops with a fault: NEVER. R280 and R392 (spec/60_exceptions.md,
spec/70_reset_and_hazards.md) say that no step of this machine faults, so the type is empty. -/
inductive Fault where
  deriving DecidableEq, Repr

/-- Why a step is refused. -/
inductive Refusal where
  /-- Raised by an arm of `exec` whose instruction has no meaning yet: none has it (safe). -/
  | notModelled (mnemonic : String)
  deriving DecidableEq, Repr

/-- What a step or a meaning answers. -/
abbrev Result := Host.Outcome State Fault Refusal

/-- The picture unit as the reset procedure leaves it before its own dots (R32, R380). -/
def resetPpu : Ppu where
  ctrl := 0
  mask := 0
  vblank := false
  spr0 := false
  ovf := false
  oamAddr := 0
  v := 0
  t := 0
  x := 0
  w := false
  readBuffer := 0
  nt := []
  pal := []
  oam := []
  scanline := 0
  dot := 0
  oddFrame := false
  frame := 0
  bgLo := 0
  bgHi := 0
  atLo := 0
  atHi := 0
  ntLatch := 0
  atLatch := 0
  patLoLatch := 0
  patHiLatch := 0
  lineSprites := []
  fb := []

/-- The cartridge `State.reset` holds: one bank of program memory with nothing listed, writable pattern
memory, horizontal mirroring (DESIGN CHOICE, notes/assumptions/5.md: no program is put into it). -/
def blankCartridge : Cartridge where
  prg := []
  prgBanks := .one
  chr := []
  chrIsRam := true
  mirroring := .horizontal
  mapperId := .zero

/-- The machine right after reset: R32's table with R7's default parameters. PC is the reset vector of a
cartridge that lists nothing. Seven cycles have been charged, so the position is scanline 0, dot 21 and
seven audio ticks have been emitted (R380). Laws/Driver.lean proves it is what power-on followed by the
reset procedure leaves. -/
def State.reset : State where
  cpu := { a := 0, x := 0, y := 0, sp := 0xFD, pc := 0x0000, p := 0x24, nmiPrev := false }
  ram := []
  cyc := 7
  ppu := { resetPpu with dot := 21 }
  cart := blankCartridge
  cfg := Config.standard
  cycles := 0
  irqLine := false
  inputs := []
  extIn := []
  extReads := 0
  events := List.replicate 7 .audioTick

end Sys2Proof.Machine
end

