-- ==== Sys2Proof/Machine/Flags.lean ====
section
/-! DEFINITION. The status byte P (spec/10_state.md R14, R15; spec/40_step_addressing.md R122, R126, R127)
and every flag computation of the instruction set (spec/42_arith_logic.md R175, R176,
spec/43_shift_rotate.md, spec/46_undocumented.md R251). -/

namespace Sys2Proof.Machine

/-! Positions of the flags in P (R14). -/

def bitC : Nat := 0
def bitZ : Nat := 1
def bitI : Nat := 2
def bitD : Nat := 3
def bitB : Nat := 4
def bitU : Nat := 5
def bitV : Nat := 6
def bitN : Nat := 7

/-- Flag number `i` of a status byte. -/
def flag (i : Nat) (p : Byte) : Bool := p.getLsbD i

/-- The status byte with flag number `i` set to `b`, every other bit kept. -/
def setFlag (i : Nat) (b : Bool) (p : Byte) : Byte :=
  if b then p ||| (1#8 <<< i) else p &&& ~~~(1#8 <<< i)

/-- `SetNZ(v)` (R122). -/
def setNZ (v : Byte) (p : Byte) : Byte := setFlag bitN (v.getLsbD 7) (setFlag bitZ (v == 0) p)

/-- `PackP(b)`: the byte written to the stack for the status register (R126). -/
def packP (b : Bool) (p : Byte) : Byte := (p &&& 0xCF) ||| 0x20 ||| (if b then 0x10 else 0x00)

/-- `UnpackP(v)`: the register a popped status byte `v` leaves: bits 4 and 5 are ignored (R127). -/
def unpackP (v : Byte) : Byte := (v &&& 0xCF) ||| 0x20

/-- A carry flag as a number. -/
def carryIn (p : Byte) : Nat := if flag bitC p then 1 else 0

/-- The unbounded sum of `AddCore(m)` (R175), 0 to 511. -/
def addSum (a m p : Byte) : Nat := a.toNat + m.toNat + carryIn p

/-- `r` of `AddCore(m)` (R175). -/
def addResult (a m p : Byte) : Byte := BitVec.ofNat 8 (addSum a m p)

/-- `P.V` of `AddCore(m)`: both addends have one sign and the result has the other (R175). -/
def addOverflow (a m r : Byte) : Bool := ((a ^^^ r) &&& (m ^^^ r) &&& 0x80) != 0

/-- P after `AddCore(m)` (R175); the decimal flag plays no part (R178). -/
def addFlags (a m p : Byte) : Byte :=
  let r := addResult a m p
  setNZ r (setFlag bitV (addOverflow a m r) (setFlag bitC (decide (addSum a m p > 255)) p))

/-- P after `Compare(r, m)` (R176). -/
def compareFlags (r m p : Byte) : Byte := setNZ (r - m) (setFlag bitC (decide (r.toNat ≥ m.toNat)) p)

/-- P after BIT with memory byte `m` (R168). -/
def bitFlags (a m p : Byte) : Byte :=
  setFlag bitV (m.getLsbD 6) (setFlag bitN (m.getLsbD 7) (setFlag bitZ ((a &&& m) == 0) p))

/-! The four shifts: `r` as a function of the operand and the status byte, and the bit shifted out
(R190 to R194). -/

/-- ASL's result (R190). -/
def aslResult (m _p : Byte) : Byte := m <<< 1

/-- LSR's result (R191). -/
def lsrResult (m _p : Byte) : Byte := m >>> 1

/-- ROL's result: the old carry enters bit 0 (R192). -/
def rolResult (m p : Byte) : Byte := (m <<< 1) ||| (if flag bitC p then 0x01 else 0x00)

/-- ROR's result: the old carry enters bit 7 (R193). -/
def rorResult (m p : Byte) : Byte := (m >>> 1) ||| (if flag bitC p then 0x80 else 0x00)

/-- The bit a left shift or rotate puts into C (R190, R192). -/
def outLeft (m : Byte) : Bool := m.getLsbD 7

/-- The bit a right shift or rotate puts into C (R191, R193). -/
def outRight (m : Byte) : Bool := m.getLsbD 0

/-- P after a shift with result `r` that shifted `c` out (R194). -/
def shiftFlags (c : Bool) (r p : Byte) : Byte := setNZ r (setFlag bitC c p)

/-- ARR's P: N, Z from the result, C its bit 6, V bit 6 xor bit 5 (R251). -/
def arrFlags (r p : Byte) : Byte :=
  setFlag bitV (r.getLsbD 6 ^^ r.getLsbD 5) (setFlag bitC (r.getLsbD 6) (setNZ r p))

end Sys2Proof.Machine
end

