-- ==== Sys2Proof/Machine/Memory.lean ====
section
/-! DEFINITION. The one storage operation every memory of the machine uses (RAM, PRG, CHR, NT, PAL, OAM,
FB): reading and writing a cell of a sparse list kept in canonical form. -/

namespace Sys2Proof.Machine

/-- What a cell that nothing lists holds: 0. It is the reset content R32 gives NT, PAL, OAM and FB, the
power-on content R381 gives writable CHR, and the default R7 gives RAM_INIT; a cartridge lists every
other byte (notes/assumptions/6.md). -/
def unlisted (w : Nat) : BitVec w := 0#w

/-- The value of cell `a`. -/
def readCell {w : Nat} : Cells w → Nat → BitVec w
  | [], _ => unlisted w
  | (k, v) :: rest, a => if k = a then v else readCell rest a

/-- The memory with cell `a` holding `v`, canonical form kept: writing what an unlisted cell holds
removes the entry. -/
def writeCell {w : Nat} : Cells w → Nat → BitVec w → Cells w
  | [], a, v => if v = unlisted w then [] else [(a, v)]
  | (k, x) :: rest, a, v =>
    if a < k then if v = unlisted w then (k, x) :: rest else (a, v) :: (k, x) :: rest
    else if a = k then if v = unlisted w then rest else (a, v) :: rest
    else (k, x) :: writeCell rest a v

/-- Every listed index is at least `lo`, indices rise strictly, and no entry holds the unlisted value. -/
def wfFrom {w : Nat} : Nat → Cells w → Bool
  | _, [] => true
  | lo, (k, v) :: rest => decide (lo ≤ k) && decide (v ≠ unlisted w) && wfFrom (k + 1) rest

/-- The canonical form: equal memories are equal lists. -/
def Memory.wf {w : Nat} (m : Cells w) : Bool := wfFrom 0 m

/-- No cell at or above `size` is listed. -/
def within {w : Nat} (size : Nat) (m : Cells w) : Bool := m.all fun c => decide (c.1 < size)

end Sys2Proof.Machine
end

