-- ==== Sys2Proof/Machine/Video.lean ====
section
/-! DEFINITION. The picture unit seen from outside (spec/61_picture_unit.md sections 1 and 2): its memory
map, the eight registers as the CPU bus reads and writes them, and its interrupt line. -/

namespace Sys2Proof.Machine

/-! ## Fields of words -/

/-- The word `v` with the field of `f`'s width that starts at bit `lo` replaced by `f`. -/
def putField {n k : Nat} (v : BitVec n) (lo : Nat) (f : BitVec k) : BitVec n :=
  (v &&& ~~~((BitVec.allOnes k).setWidth n <<< lo)) ||| (f.setWidth n <<< lo)

/-- ctrl[1:0], the nametable select (R22). -/
def ctrlNt (p : Ppu) : BitVec 2 := p.ctrl.extractLsb' 0 2
/-- ctrl.inc32 (R22). -/
def ctrlInc32 (p : Ppu) : Bool := p.ctrl.getLsbD 2
/-- ctrl.spr_table (R22). -/
def ctrlSprTable (p : Ppu) : Bool := p.ctrl.getLsbD 3
/-- ctrl.bg_table (R22). -/
def ctrlBgTable (p : Ppu) : Bool := p.ctrl.getLsbD 4
/-- ctrl.spr16 (R22). -/
def ctrlSpr16 (p : Ppu) : Bool := p.ctrl.getLsbD 5
/-- ctrl.nmi_en (R22). -/
def ctrlNmiEn (p : Ppu) : Bool := p.ctrl.getLsbD 7

/-- mask.grey (R23). -/
def maskGrey (p : Ppu) : Bool := p.mask.getLsbD 0
/-- mask.bg_left (R23). -/
def maskBgLeft (p : Ppu) : Bool := p.mask.getLsbD 1
/-- mask.spr_left (R23). -/
def maskSprLeft (p : Ppu) : Bool := p.mask.getLsbD 2
/-- mask.show_bg (R23). -/
def maskShowBg (p : Ppu) : Bool := p.mask.getLsbD 3
/-- mask.show_spr (R23). -/
def maskShowSpr (p : Ppu) : Bool := p.mask.getLsbD 4

/-- "Rendering enabled" (R23, R311). -/
def renderingEnabled (p : Ppu) : Bool := maskShowBg p || maskShowSpr p

/-- The NMI line: status.vblank and ctrl.nmi_en (R336). -/
def nmiLine (p : Ppu) : Bool := p.vblank && ctrlNmiEn p

/-! ## Memory (R317 to R321) -/

/-- `NtIndex(a)` (R317). -/
def ntIndex (m : Mirroring) (a : VAddr) : Nat :=
  let o := a.toNat % 0x1000
  let table := o / 0x400
  let off := o % 0x400
  match m with
  | .vertical => (table % 2) * 0x400 + off
  | .horizontal => (table / 2) * 0x400 + off
  | .fourScreen => o

/-- How many bytes NT has (R26). -/
def ntSize (m : Mirroring) : Nat :=
  match m with
  | .fourScreen => 4096
  | .horizontal => 2048
  | .vertical => 2048

/-- `PalIndex(a)` (R318). -/
def palIndex (a : VAddr) : Nat :=
  let i := a.toNat % 0x20
  if i = 0x10 ∨ i = 0x14 ∨ i = 0x18 ∨ i = 0x1C then i - 0x10 else i

/-- `ChrRead(a)` (spec/20_memory.md R58). -/
def chrRead (c : Cartridge) (a : VAddr) : Byte := readCell c.chr a.toNat

/-- `ChrWrite(a, v)`: ignored unless the pattern memory is RAM (spec/20_memory.md R58). -/
def chrWrite (a : VAddr) (d : Byte) (c : Cartridge) : Cartridge :=
  if c.chrIsRam then { c with chr := writeCell c.chr a.toNat d } else c

/-- `PpuRead(a)` (R320). -/
def ppuRead (c : Cartridge) (p : Ppu) (a : VAddr) : Byte :=
  if a.toNat ≤ 0x1FFF then chrRead c a
  else if a.toNat ≤ 0x3EFF then readCell p.nt (ntIndex c.mirroring a)
  else readCell p.pal (palIndex a)

/-- `PpuWrite(a, d)` (R321). -/
def ppuWrite (a : VAddr) (d : Byte) (s : State) : State :=
  if a.toNat ≤ 0x1FFF then { s with cart := chrWrite a d s.cart }
  else if a.toNat ≤ 0x3EFF then
    { s with ppu := { s.ppu with nt := writeCell s.ppu.nt (ntIndex s.cart.mirroring a) d } }
  else { s with ppu := { s.ppu with pal := writeCell s.ppu.pal (palIndex a) d } }

/-- The memory address register 7 uses: `v & 0x3FFF` (R25). -/
def dataAddr (p : Ppu) : VAddr := p.v.setWidth 14

/-- `IncV()` (R335). -/
def incV (p : Ppu) : Ppu := { p with v := p.v + (if ctrlInc32 p then 32#15 else 1#15) }

/-! ## Reads of the registers (R324) -/

/-- The byte a status read returns (R326). -/
def statusByte (cfg : Config) (p : Ppu) : Byte :=
  BitVec.ofBool p.vblank ++ BitVec.ofBool p.spr0 ++ BitVec.ofBool p.ovf ++ cfg.ppuOpenBus.extractLsb' 0 5

/-- Read of register 2 (R326). -/
def readStatus (s : State) : Byte × State :=
  (statusByte s.cfg s.ppu, { s with ppu := { s.ppu with vblank := false, w := false } })

/-- Read of register 4 (R329). -/
def readOamData (s : State) : Byte × State := (readCell s.ppu.oam s.ppu.oamAddr.toNat, s)

/-- Read of register 7, immediate (R332, PPUDATA_READ_BUFFERED = false). -/
def readDataImmediate (s : State) : Byte × State :=
  (ppuRead s.cart s.ppu (dataAddr s.ppu), { s with ppu := incV s.ppu })

/-- Read of register 7 through the read buffer (R332, PPUDATA_READ_BUFFERED = true): a palette read is
immediate and refills the buffer from the nametable byte 0x1000 below. -/
def readDataBuffered (s : State) : Byte × State :=
  let a := dataAddr s.ppu
  if a.toNat ≤ 0x3EFF then
    (s.ppu.readBuffer,
      { s with ppu := incV { s.ppu with readBuffer := ppuRead s.cart s.ppu a } })
  else
    (ppuRead s.cart s.ppu a,
      { s with ppu := incV { s.ppu with readBuffer := ppuRead s.cart s.ppu (a - 0x1000#14) } })

/-- Read of register 7 (R332). -/
def readData (s : State) : Byte × State :=
  if s.cfg.dataReadBuffered then readDataBuffered s else readDataImmediate s

/-- `PpuRegRead(n)` (R324); a write-only register reads as PPU_OPEN_BUS and changes nothing (R334). -/
def ppuRegRead (n : BitVec 3) (s : State) : Byte × State :=
  if n = 2 then readStatus s
  else if n = 4 then readOamData s
  else if n = 7 then readData s
  else (s.cfg.ppuOpenBus, s)

/-! ## Writes of the registers (R325) -/

/-- Write of register 0 (R323). -/
def writeControl (d : Byte) (p : Ppu) : Ppu :=
  { p with ctrl := d, t := putField p.t 10 (d.extractLsb' 0 2) }

/-- Write of register 1 (R327). -/
def writeMask (d : Byte) (p : Ppu) : Ppu := { p with mask := d }

/-- Write of register 3 (R328). -/
def writeOamAddr (d : Byte) (p : Ppu) : Ppu := { p with oamAddr := d }

/-- Write of register 4 (R329); the DMA controller writes OAM the same way (spec/20_memory.md R60). -/
def writeOamData (d : Byte) (p : Ppu) : Ppu :=
  { p with oam := writeCell p.oam p.oamAddr.toNat d, oamAddr := p.oamAddr + 1 }

/-- Write of register 5 (R330). -/
def writeScroll (d : Byte) (p : Ppu) : Ppu :=
  if p.w then
    { p with t := putField (putField p.t 12 (d.extractLsb' 0 3)) 5 (d.extractLsb' 3 5), w := false }
  else { p with t := putField p.t 0 (d.extractLsb' 3 5), x := d.extractLsb' 0 3, w := true }

/-- Write of register 6 (R331). -/
def writeAddress (d : Byte) (p : Ppu) : Ppu :=
  if p.w then
    let t' := putField p.t 0 d
    { p with t := t', v := t', w := false }
  else { p with t := putField (putField p.t 8 (d.extractLsb' 0 6)) 14 0#1, w := true }

/-- Write of register 7 (R333). -/
def writeData (d : Byte) (s : State) : State :=
  let s1 := ppuWrite (dataAddr s.ppu) d s
  { s1 with ppu := incV s1.ppu }

/-- `PpuRegWrite(n, d)` (R325); a write to register 2 changes nothing (R334). -/
def ppuRegWrite (n : BitVec 3) (d : Byte) (s : State) : State :=
  if n = 0 then { s with ppu := writeControl d s.ppu }
  else if n = 1 then { s with ppu := writeMask d s.ppu }
  else if n = 2 then s
  else if n = 3 then { s with ppu := writeOamAddr d s.ppu }
  else if n = 4 then { s with ppu := writeOamData d s.ppu }
  else if n = 5 then { s with ppu := writeScroll d s.ppu }
  else if n = 6 then { s with ppu := writeAddress d s.ppu }
  else writeData d s

end Sys2Proof.Machine
end

