-- ==== Sys2Proof/Machine/Render.lean ====
section
/-! DEFINITION. The picture unit's own step, one dot (spec/61_picture_unit.md sections 3 to 6): the
background pipeline, sprite evaluation, pixel output, the flags of scanlines 241 and 261, the advance of
the position. It reads the cartridge's pattern memory and never the CPU bus (R310). -/

namespace Sys2Proof.Machine

/-! ## Operations on v (R350) -/

/-- v[4:0], coarse-X (R25). -/
def coarseX (v : BitVec 15) : BitVec 5 := v.extractLsb' 0 5
/-- v[9:5], coarse-Y (R25). -/
def coarseY (v : BitVec 15) : BitVec 5 := v.extractLsb' 5 5
/-- v[14:12], fine-Y (R25). -/
def fineY (v : BitVec 15) : BitVec 3 := v.extractLsb' 12 3

/-- `IncCoarseX()` (R350). -/
def incCoarseX (v : BitVec 15) : BitVec 15 :=
  if coarseX v = 31 then putField v 0 0#5 ^^^ 0x0400#15 else putField v 0 (coarseX v + 1)

/-- `IncY()` (R350): row 29 wraps to the other nametable, row 31 wraps without changing it. -/
def incY (v : BitVec 15) : BitVec 15 :=
  if (fineY v).toNat < 7 then putField v 12 (fineY v + 1)
  else
    let v0 := putField v 12 0#3
    if coarseY v = 29 then putField v0 5 0#5 ^^^ 0x0800#15
    else if coarseY v = 31 then putField v0 5 0#5
    else putField v0 5 (coarseY v + 1)

/-- `CopyX()`: coarse-X and bit 10 from t (R350). -/
def copyX (v t : BitVec 15) : BitVec 15 :=
  putField (putField v 0 (coarseX t)) 10 (t.extractLsb' 10 1)

/-- `CopyY()`: coarse-Y, bit 11 and fine-Y from t (R350). -/
def copyY (v t : BitVec 15) : BitVec 15 :=
  putField (putField (putField v 5 (coarseY t)) 11 (t.extractLsb' 11 1)) 12 (fineY t)

/-! ## Background fetches and shifters (R351 to R353) -/

/-- `ShiftBg()` (R352). -/
def shiftBg (p : Ppu) : Ppu :=
  { p with bgLo := p.bgLo <<< 1, bgHi := p.bgHi <<< 1, atLo := p.atLo <<< 1, atHi := p.atHi <<< 1 }

/-- A shifter with its low byte replaced (R352). -/
def reload (r : BitVec 16) (b : Byte) : BitVec 16 := (r &&& 0xFF00#16) ||| b.setWidth 16

/-- Eight copies of a palette attribute bit (R352). -/
def spread (b : Bool) : Byte := if b then 0xFF else 0x00

/-- `LoadShifters()` (R352). -/
def loadShifters (p : Ppu) : Ppu :=
  { p with
    bgLo := reload p.bgLo p.patLoLatch
    bgHi := reload p.bgHi p.patHiLatch
    atLo := reload p.atLo (spread (p.atLatch.getLsbD 0))
    atHi := reload p.atHi (spread (p.atLatch.getLsbD 1)) }

/-- The nametable fetch address (R351). -/
def tileAddr (v : BitVec 15) : VAddr := 0x2000#14 ||| (v.setWidth 14 &&& 0x0FFF#14)

/-- The attribute fetch address (R353). -/
def attrAddr (v : BitVec 15) : VAddr :=
  (0x23C0#15 ||| (v &&& 0x0C00#15) ||| ((v >>> 4) &&& 0x38#15) ||| ((v >>> 2) &&& 0x07#15)).setWidth 14

/-- The attribute byte's shift: which quadrant (R353). -/
def attrShift (v : BitVec 15) : Nat := (((v >>> 4) &&& 4#15) ||| (v &&& 2#15)).toNat

/-- `PatAddr()` (R353). -/
def patAddr (p : Ppu) : VAddr :=
  (if ctrlBgTable p then 0x1000#14 else 0#14) ||| (p.ntLatch.setWidth 14 <<< 4) ||| (fineY p.v).setWidth 14

/-- The fetch of one dot: phase 0 tile index, 2 attribute, 4 and 6 pattern bytes, 7 the step to the next
tile (R351). -/
def fetchPhase (c : Cartridge) (phase : Nat) (p : Ppu) : Ppu :=
  match phase with
  | 0 => { p with ntLatch := ppuRead c p (tileAddr p.v) }
  | 2 => { p with atLatch := (ppuRead c p (attrAddr p.v) >>> attrShift p.v).setWidth 2 }
  | 4 => { p with patLoLatch := ppuRead c p (patAddr p) }
  | 6 => { p with patHiLatch := ppuRead c p (patAddr p + 8#14) }
  | 7 => { p with v := incCoarseX p.v }
  | _ => p

/-- The dots at which the shifters shift (R351). -/
def shiftDot (dot : Nat) : Bool := decide (2 ≤ dot ∧ dot ≤ 257) || decide (322 ≤ dot ∧ dot ≤ 337)

/-- The dots at which the shifters are reloaded: 9, 17, ..., 257, and 329, 337 (R351). -/
def loadDot (dot : Nat) : Bool :=
  decide (9 ≤ dot ∧ dot ≤ 257 ∧ dot % 8 = 1) || decide (dot = 329) || decide (dot = 337)

/-- F of R351: the dots that fetch. -/
def fetchDot (dot : Nat) : Bool := decide (1 ≤ dot ∧ dot ≤ 256) || decide (321 ≤ dot ∧ dot ≤ 336)

/-- The vertical and horizontal moves of v at dots 256, 257 and 280 to 304 (R351). -/
def scrollDot (p : Ppu) : Ppu :=
  if p.dot = 256 then { p with v := incY p.v }
  else if p.dot = 257 then { p with v := copyX p.v p.t }
  else if p.scanline = 261 ∧ 280 ≤ p.dot ∧ p.dot ≤ 304 then { p with v := copyY p.v p.t }
  else p

/-- `BackgroundDot()` (R351). -/
def backgroundDot (c : Cartridge) (p : Ppu) : Ppu :=
  let p1 := if shiftDot p.dot then shiftBg p else p
  let p2 := if loadDot p.dot then loadShifters p1 else p1
  let p3 := if fetchDot p.dot then fetchPhase c ((p.dot - 1) % 8) p2 else p2
  scrollDot p3

/-! ## Sprite evaluation (R361 to R363) -/

/-- Byte `k` of sprite `n` (R26, R360). -/
def oamByte (p : Ppu) (n k : Nat) : Byte := readCell p.oam (4 * n + k)

/-- The height of sprites in rows (R22). -/
def spriteHeight (p : Ppu) : Nat := if ctrlSpr16 p then 16 else 8

/-- Sprite `n` has a row on the next scanline (R361). -/
def spriteInRange (p : Ppu) (n : Nat) : Bool :=
  decide ((oamByte p n 0).toNat ≤ p.scanline ∧ p.scanline - (oamByte p n 0).toNat < spriteHeight p)

/-- The sprites in range, in ascending index order (R361). -/
def spritesInRange (p : Ppu) : List Nat := (List.range 64).filter (spriteInRange p)

/-- `bitreverse8` (R363). -/
def bitReverse8 (b : Byte) : Byte :=
  BitVec.ofBool (b.getLsbD 0) ++ BitVec.ofBool (b.getLsbD 1) ++ BitVec.ofBool (b.getLsbD 2)
    ++ BitVec.ofBool (b.getLsbD 3) ++ BitVec.ofBool (b.getLsbD 4) ++ BitVec.ofBool (b.getLsbD 5)
    ++ BitVec.ofBool (b.getLsbD 6) ++ BitVec.ofBool (b.getLsbD 7)

/-- The row of the pattern to fetch: flipped vertically when attribute bit 7 is set (R363). -/
def spriteRow (p : Ppu) (attr : Byte) (row : Nat) : Nat :=
  if attr.getLsbD 7 then spriteHeight p - 1 - row else row

/-- The address of a sprite's low pattern byte (R363). -/
def spriteAddr (p : Ppu) (tile : Byte) (row : Nat) : VAddr :=
  if ctrlSpr16 p then
    (if tile.getLsbD 0 then 0x1000#14 else 0#14)
      ||| (((tile &&& 0xFE).setWidth 14 + BitVec.ofNat 14 (row / 8)) <<< 4) ||| BitVec.ofNat 14 (row % 8)
  else (if ctrlSprTable p then 0x1000#14 else 0#14) ||| (tile.setWidth 14 <<< 4) ||| BitVec.ofNat 14 row

/-- `SpriteFetch(n, row)` (R363). -/
def spriteFetch (c : Cartridge) (p : Ppu) (n row : Nat) : LineSprite :=
  let attr := oamByte p n 2
  let addr := spriteAddr p (oamByte p n 1) (spriteRow p attr row)
  let lo := ppuRead c p addr
  let hi := ppuRead c p (addr + 8#14)
  { index := BitVec.ofNat 6 n
    x := oamByte p n 3
    attr := attr
    lo := if attr.getLsbD 6 then bitReverse8 lo else lo
    hi := if attr.getLsbD 6 then bitReverse8 hi else hi }

/-- The selected sprites after dot 257 of a visible line with rendering disabled: all of them (R355, D28) or none
(the first line of R361's procedure), as the free value says (DESIGN CHOICE, notes/assumptions/8.md). -/
def spritesWhenDisabled (l : List LineSprite) : List LineSprite := l.filter fun _ => Config.spritesStay

/-- `SpriteEvaluate()` (R361): the pre-render line empties the list, whether or not rendering is enabled, so that
scanline 0 shows no sprite (R361, D25; DEDUCED against R355, notes/assumptions/8.md); on a visible line with
rendering disabled nothing is selected or fetched (R355); with rendering enabled the first eight sprites in range
are fetched and a ninth sets the overflow flag (R362) (the loop as a list: DEDUCED, notes/assumptions/11.md). -/
def spriteEvaluate (c : Cartridge) (p : Ppu) : Ppu :=
  if p.scanline = 261 then { p with lineSprites := [] }
  else if !renderingEnabled p then { p with lineSprites := spritesWhenDisabled p.lineSprites }
  else
    { p with
      lineSprites := ((spritesInRange p).take 8).map fun n =>
        spriteFetch c p n (p.scanline - (oamByte p n 0).toNat)
      ovf := p.ovf || decide (8 < (spritesInRange p).length) }

/-! ## Pixels (R354, R364, R366, R371) -/

/-- Bit `bit` of a pair of planes, high plane first. -/
def planePair (hi lo : Bool) : BitVec 2 := BitVec.ofBool hi ++ BitVec.ofBool lo

/-- `BgPixel(px)`: (pix, pal) (R354). -/
def bgPixel (p : Ppu) (px : Nat) : BitVec 2 × BitVec 2 :=
  if !maskShowBg p || (decide (px < 8) && !maskBgLeft p) then (0, 0)
  else
    let bit := 15 - p.x.toNat
    (planePair (p.bgHi.getLsbD bit) (p.bgLo.getLsbD bit), planePair (p.atHi.getLsbD bit) (p.atLo.getLsbD bit))

/-- What `SpritePixel` returns (R364): the winning sprite's pixel, palette, priority bit, and whether it
is sprite 0. -/
structure SpriteDot where
  pix : BitVec 2
  pal : BitVec 3
  behind : Bool
  isZero : Bool
  deriving DecidableEq, Repr

/-- No sprite pixel: transparent (R364). -/
def noSprite : SpriteDot := { pix := 0, pal := 0, behind := false, isZero := false }

/-- The pixel of one sprite at a column, 0 outside its eight columns (R364). -/
def lineSpritePix (s : LineSprite) (px : Nat) : BitVec 2 :=
  if s.x.toNat ≤ px ∧ px - s.x.toNat ≤ 7 then
    planePair (s.hi.getLsbD (7 - (px - s.x.toNat))) (s.lo.getLsbD (7 - (px - s.x.toNat)))
  else 0

/-- The first sprite of the list with an opaque pixel at the column (R364). -/
def firstOpaque (px : Nat) : List LineSprite → SpriteDot
  | [] => noSprite
  | s :: rest =>
    if lineSpritePix s px ≠ 0 then
      { pix := lineSpritePix s px
        pal := 4 + (s.attr.extractLsb' 0 2).setWidth 3
        behind := s.attr.getLsbD 5
        isZero := decide (s.index = 0) }
    else firstOpaque px rest

/-- `SpritePixel(px)` (R364). -/
def spritePixel (p : Ppu) (px : Nat) : SpriteDot :=
  if !maskShowSpr p || (decide (px < 8) && !maskSprLeft p) then noSprite else firstOpaque px p.lineSprites

/-- `Colour(c)` (R371). -/
def colour (p : Ppu) (c : BitVec 5) : BitVec 6 :=
  (readCell p.pal (palIndex (0x3F00#14 ||| c.setWidth 14))).setWidth 6
    &&& (if maskGrey p then 0x30#6 else 0x3F#6)

/-- The palette entry `c` a background pixel and a sprite pixel give (R366). -/
def pixelEntry (bp bpal : BitVec 2) (sp : SpriteDot) : BitVec 5 :=
  if bp = 0 then if sp.pix = 0 then 0 else sp.pal ++ sp.pix
  else if sp.pix = 0 then 0#1 ++ bpal ++ bp
  else if sp.behind then 0#1 ++ bpal ++ bp else sp.pal ++ sp.pix

/-- The sprite-0 hit at a column (R366, R368). -/
def spriteZeroHit (bp : BitVec 2) (sp : SpriteDot) (px : Nat) : Bool :=
  decide (bp ≠ 0) && decide (sp.pix ≠ 0) && sp.isZero && decide (px ≠ 255)

/-- Where FB[y][x] lies (R29). -/
def fbIndex (y x : Nat) : Nat := 256 * y + x

/-- `EmitPixel()` (R366). -/
def emitPixel (p : Ppu) : Ppu :=
  let px := p.dot - 1
  let b := bgPixel p px
  let sp := spritePixel p px
  { p with
    spr0 := p.spr0 || spriteZeroHit b.1 sp px
    fb := writeCell p.fb (fbIndex p.scanline px) (colour p (pixelEntry b.1 b.2 sp)) }

/-! ## The dot (R340 to R346) -/

/-- `Advance()`; `rendering` is the value at the top of the same tick (R342, R343). -/
def advance (rendering : Bool) (p : Ppu) : Ppu :=
  if p.scanline = 261 ∧ p.dot = 338 ∧ p.oddFrame = true ∧ rendering = true then { p with dot := 340 }
  else if p.dot < 340 then { p with dot := p.dot + 1 }
  else if p.scanline < 261 then { p with dot := 0, scanline := p.scanline + 1 }
  else { p with dot := 0, scanline := 0, oddFrame := !p.oddFrame, frame := p.frame + 1 }

/-- What a dot of a render line does before the advance: background, pixel, sprites, in this order (R340). -/
def renderLineDot (c : Cartridge) (p : Ppu) : Ppu :=
  let p1 := if renderingEnabled p then backgroundDot c p else p
  let p2 := if p.scanline ≤ 239 ∧ 1 ≤ p.dot ∧ p.dot ≤ 256 then emitPixel p1 else p1
  if p.dot = 257 then spriteEvaluate c p2 else p2

/-- Scanline 241, dot 1: vertical blank begins (R345). -/
def vblankDot (p : Ppu) : Bool := decide (p.scanline = 241) && decide (p.dot = 1)

/-- Scanline 261, dot 1: the three status flags are cleared (R346). -/
def clearDot (p : Ppu) : Bool := decide (p.scanline = 261) && decide (p.dot = 1)

/-- What the position alone does to the status flags (R345, R346). -/
def statusDot (p : Ppu) : Ppu :=
  if vblankDot p then { p with vblank := true }
  else if clearDot p then { p with vblank := false, spr0 := false, ovf := false }
  else p

/-- `PpuTick()` (R340). -/
def ppuTick (c : Cartridge) (p : Ppu) : Ppu :=
  let p1 := if p.scanline ≤ 239 ∨ p.scanline = 261 then renderLineDot c p else p
  advance (renderingEnabled p) (statusDot p1)

/-- `k` dots (R390). -/
def runDots (c : Cartridge) : Nat → Ppu → Ppu
  | 0, p => p
  | k + 1, p => runDots c k (ppuTick c p)

/-- The `frame_ready` events of `k` dots, each with the copy of FB it carries (R345, R372; DEDUCED,
notes/assumptions/18.md). -/
def frameEvents (c : Cartridge) : Nat → Ppu → List Event
  | 0, _ => []
  | k + 1, p => (if vblankDot p then [.frameReady p.fb] else []) ++ frameEvents c k (ppuTick c p)

end Sys2Proof.Machine
end

