-- ==== Sys2Proof/Machine/Ops.lean ====
section
/-! DEFINITION. The named operations every instruction uses: the system bus with its one address decoder
(spec/20_memory.md R40 to R57), the sprite DMA controller (R60, R61), the stack (spec/40_step_addressing.md
R120, R121), register writes, taking an interrupt and returning from one (spec/60_exceptions.md R288,
spec/44_control_flow.md R203). -/

namespace Sys2Proof.Machine

/-! ## Registers -/

/-- The state with its CPU registers replaced. -/
def withCpu (c : Cpu) (s : State) : State := { s with cpu := c }

/-- `PC <- v`. -/
def setPc (v : Addr) (s : State) : State := { s with cpu := { s.cpu with pc := v } }

/-- `SP <- v`. -/
def setSp (v : Byte) (s : State) : State := { s with cpu := { s.cpu with sp := v } }

/-- `P <- v`. -/
def setP (v : Byte) (s : State) : State := { s with cpu := { s.cpu with p := v } }

/-- `A <- v`, no flag. -/
def setA (v : Byte) (s : State) : State := { s with cpu := { s.cpu with a := v } }

/-- `X <- v`, no flag. -/
def setX (v : Byte) (s : State) : State := { s with cpu := { s.cpu with x := v } }

/-- `Y <- v`, no flag. -/
def setY (v : Byte) (s : State) : State := { s with cpu := { s.cpu with y := v } }

/-- `SetNZ(v)` on the machine's P (R122). -/
def updateNZ (v : Byte) (s : State) : State := setP (setNZ v s.cpu.p) s

/-- `cycles <- n` (R8, R100). -/
def setCycles (n : Nat) (s : State) : State := { s with cycles := n }

/-- `cycles <- cycles + n` (R8, R104). -/
def addCycles (n : Nat) (s : State) : State := { s with cycles := s.cycles + n }

/-! ## The bus -/

/-- The RAM byte behind a CPU address: mirrored every 2 KiB (R46). -/
def ramIndex (a : Addr) : Nat := a.toNat % 0x800

/-- The size of program memory (R6). -/
def prgSize (b : PrgBanks) : Nat :=
  match b with
  | .one => 16384
  | .two => 32768

/-- The program byte behind a CPU address in 0x8000-0xFFFF (R55). -/
def prgIndex (c : Cartridge) (a : Addr) : Nat := (a.toNat - 0x8000) % prgSize c.prgBanks

/-- A read of 0x4000-0x401F: the environment's answer (R52); the next of `extIn`, else the free value
(notes/assumptions/1.md). -/
def extRead (a : Addr) (s : State) : Byte × State :=
  match s.extIn with
  | [] => (Config.extRead s.extReads a, { s with extReads := s.extReads + 1 })
  | b :: rest => (b, { s with extIn := rest, extReads := s.extReads + 1 })

/-- The event of a write to 0x4000-0x401F other than 0x4014 (R52). -/
def extWrite (a : Addr) (v : Byte) (s : State) : State := { s with events := s.events ++ [.extWrite a v] }

/-- `BusRead(a)` (R42). -/
def busRead (a : Addr) (s : State) : Byte × State :=
  if a.toNat ≤ 0x1FFF then (readCell s.ram (ramIndex a), s)
  else if a.toNat ≤ 0x3FFF then ppuRegRead (a.setWidth 3) s
  else if a.toNat ≤ 0x401F then extRead a s
  else if a.toNat ≤ 0x7FFF then (s.cfg.openBus, s)
  else (readCell s.cart.prg (prgIndex s.cart a), s)

/-- One byte of a DMA transfer: `OAM[oam_addr] <- BusRead(page, i)`, then oam_addr moves on (R60). -/
def dmaByte (page : Byte) (i : Nat) (s : State) : State :=
  let r := busRead (page ++ BitVec.ofNat 8 i) s
  { r.2 with ppu := writeOamData r.1 r.2.ppu }

/-- The first `n` bytes of a DMA transfer, in ascending order (R60). -/
def dmaBytes (page : Byte) : Nat → State → State
  | 0, s => s
  | n + 1, s => dmaByte page n (dmaBytes page n s)

/-- The CPU cycles a transfer takes, by the parity of `cyc` at the start of the instruction (R61). -/
def dmaCost (cyc : Nat) : Nat := 513 + cyc % 2

/-- `OamDma(page)` (R60). -/
def oamDma (page : Byte) (s : State) : State := addCycles (dmaCost s.cyc) (dmaBytes page 256 s)

/-- `BusWrite(a, v)` (R43). -/
def busWrite (a : Addr) (v : Byte) (s : State) : State :=
  if a.toNat ≤ 0x1FFF then { s with ram := writeCell s.ram (ramIndex a) v }
  else if a.toNat ≤ 0x3FFF then ppuRegWrite (a.setWidth 3) v s
  else if a.toNat = 0x4014 then oamDma v s
  else if a.toNat ≤ 0x401F then extWrite a v s
  else s

/-! ## The stack -/

/-- The CPU address SP designates (R12). -/
def stackAddr (sp : Byte) : Addr := 0x01#8 ++ sp

/-- `Push(v)` (R120). -/
def push (v : Byte) (s : State) : State :=
  let s1 := busWrite (stackAddr s.cpu.sp) v s
  setSp (s1.cpu.sp - 1) s1

/-- `Pop()` (R121). -/
def pop (s : State) : Byte × State :=
  let s1 := setSp (s.cpu.sp + 1) s
  busRead (stackAddr s1.cpu.sp) s1

/-- The high byte of an address. -/
def hiByte (a : Addr) : Byte := a.extractLsb' 8 8

/-- The low byte of an address. -/
def loByte (a : Addr) : Byte := a.extractLsb' 0 8

/-- Push an address, high byte first (R44). -/
def pushAddr (a : Addr) (s : State) : State := push (loByte a) (push (hiByte a) s)

/-- Read a two-byte quantity whose bytes lie at `a` and `b`, the low byte first (R44). -/
def readPair (a b : Addr) (s : State) : Addr × State :=
  let lo := busRead a s
  let hi := busRead b lo.2
  (hi.1 ++ lo.1, hi.2)

/-! ## Interrupts -/

/-- What an interrupt entry is for (R288). -/
inductive Interrupt where
  | nmi
  | irq
  | brk
  deriving DecidableEq, Repr

/-- The address of the vector's low byte (R289). -/
def vector (k : Interrupt) : Addr :=
  match k with
  | .nmi => 0xFFFA
  | .irq => 0xFFFE
  | .brk => 0xFFFE

/-- The return address an entry pushes; for BRK, PC stands after the opcode byte (R288). -/
def returnAddr (k : Interrupt) (pc : Addr) : Addr :=
  match k with
  | .nmi => pc
  | .irq => pc
  | .brk => pc + 1

/-- The break bit of the status byte an entry pushes (R281, R288). -/
def breakBit (k : Interrupt) : Bool :=
  match k with
  | .nmi => false
  | .irq => false
  | .brk => true

/-- `raise Interrupt(kind)`: TAKING AN EXCEPTION, the one sequence of NMI, IRQ and BRK (R288). -/
def enterInterrupt (k : Interrupt) (s : State) : State :=
  let s1 := pushAddr (returnAddr k s.cpu.pc) s
  let s2 := push (packP (breakBit k) s1.cpu.p) s1
  let s3 := setP (setFlag bitI true s2.cpu.p) s2
  let r := readPair (vector k) (vector k + 1) s3
  setCycles 7 (setPc r.1 r.2)

/-- RETURNING FROM AN EXCEPTION: status, then the low and the high byte of PC come off the stack (R203). -/
def returnFromInterrupt (s : State) : State :=
  let st := pop s
  let s1 := setP (unpackP st.1) st.2
  let lo := pop s1
  let hi := pop lo.2
  setPc (hi.1 ++ lo.1) hi.2

end Sys2Proof.Machine
end

