-- ==== Sys2Proof/Machine/Operands.lean ====
section
/-! DEFINITION. The addressing modes (spec/40_step_addressing.md R106 to R119) and the access classes of
R105 over them. An instruction's own bytes have been fetched before it runs (R124), so a mode starts from
the operand and from PC at the next instruction. -/

namespace Sys2Proof.Machine

/-- An addressing mode that resolves an effective address, with its operand (R81, R109 to R117). Implied
and accumulator resolve none (R106, R107), an immediate operand is the fetched byte itself (R108), a
branch target is `branchTarget` (R118). -/
inductive Mode where
  | zp (op : Byte)
  | zpx (op : Byte)
  | zpy (op : Byte)
  | abs (a : Addr)
  | abx (a : Addr)
  | aby (a : Addr)
  | ind (ptr : Addr)
  | izx (op : Byte)
  | izy (op : Byte)
  deriving DecidableEq, Repr

/-- What `Resolve` answers: the effective address, whether a page was crossed, and the state after the
pointer reads. -/
structure Resolved where
  ea : Addr
  crossed : Bool
  state : State

/-- A page-0 address. -/
def zeroPage (b : Byte) : Addr := b.setWidth 16

/-- Two addresses lie in different pages: their upper bytes differ (R113). -/
def pageCross (a b : Addr) : Bool := (a &&& 0xFF00#16) != (b &&& 0xFF00#16)

/-- The address after `p` in `p`'s own page: the indirect jump's pointer does not carry (R115). -/
def nextInPage (p : Addr) : Addr := (p &&& 0xFF00#16) ||| ((p + 1) &&& 0x00FF#16)

/-- Indexing a 16-bit base (R113, R114, R117). -/
def indexed (base : Addr) (i : Byte) (s : State) : Resolved :=
  let ea := base + i.setWidth 16
  { ea := ea, crossed := pageCross base ea, state := s }

/-- `Resolve(format)` (R109 to R117). -/
def resolve (m : Mode) (s : State) : Resolved :=
  match m with
  | .zp op => { ea := zeroPage op, crossed := false, state := s }
  | .zpx op => { ea := zeroPage (op + s.cpu.x), crossed := false, state := s }
  | .zpy op => { ea := zeroPage (op + s.cpu.y), crossed := false, state := s }
  | .abs a => { ea := a, crossed := false, state := s }
  | .abx a => indexed a s.cpu.x s
  | .aby a => indexed a s.cpu.y s
  | .ind ptr =>
    let r := readPair ptr (nextInPage ptr) s
    { ea := r.1, crossed := false, state := r.2 }
  | .izx op =>
    let z := op + s.cpu.x
    let r := readPair (zeroPage z) (zeroPage (z + 1)) s
    { ea := r.1, crossed := false, state := r.2 }
  | .izy op =>
    let r := readPair (zeroPage op) (zeroPage (op + 1)) s
    indexed r.1 s.cpu.y r.2

/-- A relative target: the next instruction's address plus the signed offset (R118). -/
def branchTarget (off : Byte) (pc : Addr) : Addr := pc + off.signExtend 16

/-! ## Access classes (R105) -/

/-- The page-cross cycle of a row that has the penalty (R104, R119). -/
def chargeCross (penalty crossed : Bool) (s : State) : State :=
  if penalty && crossed then addCycles 1 s else s

/-- Class `read`: `m <- MemRead(ea, 1)`, then the operation (R105). -/
def readInstr (base : Nat) (penalty : Bool) (m : Mode) (op : Byte → State → State) (s : State) : State :=
  let e := resolve m (setCycles base s)
  let r := busRead e.ea e.state
  chargeCross penalty e.crossed (op r.1 r.2)

/-- Class `read` in the immediate format: the operand byte is the one that was fetched (R105, R108; DEDUCED,
notes/assumptions/9.md). -/
def immInstr (base : Nat) (m : Byte) (op : Byte → State → State) (s : State) : State :=
  op m (setCycles base s)

/-- Class `write`: one `MemWrite(ea, 1, v)`, no read (R105). -/
def writeInstr (base : Nat) (m : Mode) (val : Cpu → Byte) (s : State) : State :=
  let e := resolve m (setCycles base s)
  busWrite e.ea (val e.state.cpu) e.state

/-- Class `rmw`: one read, one write of the result, then the registers (R105; their order DEDUCED,
notes/assumptions/10.md). `res` gives the result from
the byte read and P; `fin` takes the byte read and the result. -/
def rmwInstr (base : Nat) (m : Mode) (res : Byte → Byte → Byte) (fin : Byte → Byte → State → State)
    (s : State) : State :=
  let e := resolve m (setCycles base s)
  let r := busRead e.ea e.state
  let v := res r.1 r.2.cpu.p
  fin r.1 v (busWrite e.ea v r.2)

/-- A row that resolves its address and makes no access to it (R258). -/
def resolveInstr (base : Nat) (m : Mode) (s : State) : State := (resolve m (setCycles base s)).state

/-- Classes `reg` and `none`: no access (R105). -/
def regInstr (base : Nat) (op : State → State) (s : State) : State := op (setCycles base s)

/-- The common branch rule (R205): 2 cycles, 1 more when taken, 1 more when the target lies in another page
than the next instruction. -/
def branchInstr (taken : Byte → Bool) (off : Byte) (s : State) : State :=
  let s1 := setCycles 2 s
  let target := branchTarget off s1.cpu.pc
  if taken s1.cpu.p then
    setPc target (addCycles (if pageCross s1.cpu.pc target then 2 else 1) s1)
  else s1

end Sys2Proof.Machine
end

