-- ==== Sys2Proof/Machine/Load.lean ====
section
/-! DEFINITION. Load, store and register transfer instructions (spec/41_load_store_transfer.md). -/

namespace Sys2Proof.Machine

/-- `A <- m; SetNZ(A)` (R140). -/
def loadA (m : Byte) (s : State) : State := updateNZ m (setA m s)

/-- `X <- m; SetNZ(X)` (R141). -/
def loadX (m : Byte) (s : State) : State := updateNZ m (setX m s)

/-- `Y <- m; SetNZ(Y)` (R142). -/
def loadY (m : Byte) (s : State) : State := updateNZ m (setY m s)

/-- The byte STA stores (R143). -/
def regA (c : Cpu) : Byte := c.a

/-- The byte STX stores (R144). -/
def regX (c : Cpu) : Byte := c.x

/-- The byte STY stores (R145). -/
def regY (c : Cpu) : Byte := c.y

/-- TAX (R146). -/
def opTax (s : State) : State := loadX s.cpu.a s

/-- TAY (R147). -/
def opTay (s : State) : State := loadY s.cpu.a s

/-- TXA (R148). -/
def opTxa (s : State) : State := loadA s.cpu.x s

/-- TYA (R149). -/
def opTya (s : State) : State := loadA s.cpu.y s

/-- TSX (R150). -/
def opTsx (s : State) : State := loadX s.cpu.sp s

/-- TXS: the only transfer that sets no flag (R151). -/
def opTxs (s : State) : State := setSp s.cpu.x s

/-- LDA #m, 0xA9 (R140); 2 cycles. -/
def execLdaImm (m : Byte) (s : State) : Result := .next (immInstr 2 m loadA s)

/-- LDA zp, 0xA5 (R140); 3 cycles. -/
def execLdaZp (zp : Byte) (s : State) : Result := .next (readInstr 3 false (.zp zp) loadA s)

/-- LDA zp,X, 0xB5 (R140); 4 cycles. -/
def execLdaZpx (zp : Byte) (s : State) : Result := .next (readInstr 4 false (.zpx zp) loadA s)

/-- LDA a, 0xAD (R140); 4 cycles. -/
def execLdaAbs (a : Addr) (s : State) : Result := .next (readInstr 4 false (.abs a) loadA s)

/-- LDA a,X, 0xBD (R140); 4 cycles, 1 more on a page cross. -/
def execLdaAbx (a : Addr) (s : State) : Result := .next (readInstr 4 true (.abx a) loadA s)

/-- LDA a,Y, 0xB9 (R140); 4 cycles, 1 more on a page cross. -/
def execLdaAby (a : Addr) (s : State) : Result := .next (readInstr 4 true (.aby a) loadA s)

/-- LDA (zp,X), 0xA1 (R140); 6 cycles. -/
def execLdaIzx (zp : Byte) (s : State) : Result := .next (readInstr 6 false (.izx zp) loadA s)

/-- LDA (zp),Y, 0xB1 (R140); 5 cycles, 1 more on a page cross. -/
def execLdaIzy (zp : Byte) (s : State) : Result := .next (readInstr 5 true (.izy zp) loadA s)

/-- LDX #m, 0xA2 (R141); 2 cycles. -/
def execLdxImm (m : Byte) (s : State) : Result := .next (immInstr 2 m loadX s)

/-- LDX zp, 0xA6 (R141); 3 cycles. -/
def execLdxZp (zp : Byte) (s : State) : Result := .next (readInstr 3 false (.zp zp) loadX s)

/-- LDX zp,Y, 0xB6 (R141); 4 cycles. -/
def execLdxZpy (zp : Byte) (s : State) : Result := .next (readInstr 4 false (.zpy zp) loadX s)

/-- LDX a, 0xAE (R141); 4 cycles. -/
def execLdxAbs (a : Addr) (s : State) : Result := .next (readInstr 4 false (.abs a) loadX s)

/-- LDX a,Y, 0xBE (R141); 4 cycles, 1 more on a page cross. -/
def execLdxAby (a : Addr) (s : State) : Result := .next (readInstr 4 true (.aby a) loadX s)

/-- LDY #m, 0xA0 (R142); 2 cycles. -/
def execLdyImm (m : Byte) (s : State) : Result := .next (immInstr 2 m loadY s)

/-- LDY zp, 0xA4 (R142); 3 cycles. -/
def execLdyZp (zp : Byte) (s : State) : Result := .next (readInstr 3 false (.zp zp) loadY s)

/-- LDY zp,X, 0xB4 (R142); 4 cycles. -/
def execLdyZpx (zp : Byte) (s : State) : Result := .next (readInstr 4 false (.zpx zp) loadY s)

/-- LDY a, 0xAC (R142); 4 cycles. -/
def execLdyAbs (a : Addr) (s : State) : Result := .next (readInstr 4 false (.abs a) loadY s)

/-- LDY a,X, 0xBC (R142); 4 cycles, 1 more on a page cross. -/
def execLdyAbx (a : Addr) (s : State) : Result := .next (readInstr 4 true (.abx a) loadY s)

/-- STA zp, 0x85 (R143); 3 cycles. -/
def execStaZp (zp : Byte) (s : State) : Result := .next (writeInstr 3 (.zp zp) regA s)

/-- STA zp,X, 0x95 (R143); 4 cycles. -/
def execStaZpx (zp : Byte) (s : State) : Result := .next (writeInstr 4 (.zpx zp) regA s)

/-- STA a, 0x8D (R143); 4 cycles. -/
def execStaAbs (a : Addr) (s : State) : Result := .next (writeInstr 4 (.abs a) regA s)

/-- STA a,X, 0x9D (R143); 5 cycles. -/
def execStaAbx (a : Addr) (s : State) : Result := .next (writeInstr 5 (.abx a) regA s)

/-- STA a,Y, 0x99 (R143); 5 cycles. -/
def execStaAby (a : Addr) (s : State) : Result := .next (writeInstr 5 (.aby a) regA s)

/-- STA (zp,X), 0x81 (R143); 6 cycles. -/
def execStaIzx (zp : Byte) (s : State) : Result := .next (writeInstr 6 (.izx zp) regA s)

/-- STA (zp),Y, 0x91 (R143); 6 cycles. -/
def execStaIzy (zp : Byte) (s : State) : Result := .next (writeInstr 6 (.izy zp) regA s)

/-- STX zp, 0x86 (R144); 3 cycles. -/
def execStxZp (zp : Byte) (s : State) : Result := .next (writeInstr 3 (.zp zp) regX s)

/-- STX zp,Y, 0x96 (R144); 4 cycles. -/
def execStxZpy (zp : Byte) (s : State) : Result := .next (writeInstr 4 (.zpy zp) regX s)

/-- STX a, 0x8E (R144); 4 cycles. -/
def execStxAbs (a : Addr) (s : State) : Result := .next (writeInstr 4 (.abs a) regX s)

/-- STY zp, 0x84 (R145); 3 cycles. -/
def execStyZp (zp : Byte) (s : State) : Result := .next (writeInstr 3 (.zp zp) regY s)

/-- STY zp,X, 0x94 (R145); 4 cycles. -/
def execStyZpx (zp : Byte) (s : State) : Result := .next (writeInstr 4 (.zpx zp) regY s)

/-- STY a, 0x8C (R145); 4 cycles. -/
def execStyAbs (a : Addr) (s : State) : Result := .next (writeInstr 4 (.abs a) regY s)

/-- TAX, 0xAA (R146); 2 cycles. -/
def execTax (s : State) : Result := .next (regInstr 2 opTax s)

/-- TAY, 0xA8 (R147); 2 cycles. -/
def execTay (s : State) : Result := .next (regInstr 2 opTay s)

/-- TXA, 0x8A (R148); 2 cycles. -/
def execTxa (s : State) : Result := .next (regInstr 2 opTxa s)

/-- TYA, 0x98 (R149); 2 cycles. -/
def execTya (s : State) : Result := .next (regInstr 2 opTya s)

/-- TSX, 0xBA (R150); 2 cycles. -/
def execTsx (s : State) : Result := .next (regInstr 2 opTsx s)

/-- TXS, 0x9A (R151); 2 cycles. -/
def execTxs (s : State) : Result := .next (regInstr 2 opTxs s)

end Sys2Proof.Machine
end

