-- ==== Sys2Proof/Machine/Arith.lean ====
section
/-! DEFINITION. Arithmetic, logic, compare, increment and decrement instructions
(spec/42_arith_logic.md). -/

namespace Sys2Proof.Machine

/-- `AddCore(m)` (R175). -/
def addCore (m : Byte) (s : State) : State :=
  setP (addFlags s.cpu.a m s.cpu.p) (setA (addResult s.cpu.a m s.cpu.p) s)

/-- ADC (R160). -/
def opAdc (m : Byte) (s : State) : State := addCore m s

/-- SBC: the sum with the complemented operand (R161). -/
def opSbc (m : Byte) (s : State) : State := addCore (m ^^^ 0xFF) s

/-- AND (R162). -/
def opAnd (m : Byte) (s : State) : State := loadA (s.cpu.a &&& m) s

/-- ORA (R163). -/
def opOra (m : Byte) (s : State) : State := loadA (s.cpu.a ||| m) s

/-- EOR (R164). -/
def opEor (m : Byte) (s : State) : State := loadA (s.cpu.a ^^^ m) s

/-- CMP (R165). -/
def opCmp (m : Byte) (s : State) : State := setP (compareFlags s.cpu.a m s.cpu.p) s

/-- CPX (R166). -/
def opCpx (m : Byte) (s : State) : State := setP (compareFlags s.cpu.x m s.cpu.p) s

/-- CPY (R167). -/
def opCpy (m : Byte) (s : State) : State := setP (compareFlags s.cpu.y m s.cpu.p) s

/-- BIT (R168). -/
def opBit (m : Byte) (s : State) : State := setP (bitFlags s.cpu.a m s.cpu.p) s

/-- INC's result (R169). -/
def incResult (m _p : Byte) : Byte := m + 1

/-- DEC's result (R170). -/
def decResult (m _p : Byte) : Byte := m - 1

/-- What INC and DEC do after the write: N and Z from the result (R169, R170). -/
def finIncDec (_m r : Byte) (s : State) : State := updateNZ r s

/-- INX (R171). -/
def opInx (s : State) : State := loadX (s.cpu.x + 1) s

/-- INY (R172). -/
def opIny (s : State) : State := loadY (s.cpu.y + 1) s

/-- DEX (R173). -/
def opDex (s : State) : State := loadX (s.cpu.x - 1) s

/-- DEY (R174). -/
def opDey (s : State) : State := loadY (s.cpu.y - 1) s

/-- ADC #m, 0x69 (R160); 2 cycles. -/
def execAdcImm (m : Byte) (s : State) : Result := .next (immInstr 2 m opAdc s)

/-- ADC zp, 0x65 (R160); 3 cycles. -/
def execAdcZp (zp : Byte) (s : State) : Result := .next (readInstr 3 false (.zp zp) opAdc s)

/-- ADC zp,X, 0x75 (R160); 4 cycles. -/
def execAdcZpx (zp : Byte) (s : State) : Result := .next (readInstr 4 false (.zpx zp) opAdc s)

/-- ADC a, 0x6D (R160); 4 cycles. -/
def execAdcAbs (a : Addr) (s : State) : Result := .next (readInstr 4 false (.abs a) opAdc s)

/-- ADC a,X, 0x7D (R160); 4 cycles, 1 more on a page cross. -/
def execAdcAbx (a : Addr) (s : State) : Result := .next (readInstr 4 true (.abx a) opAdc s)

/-- ADC a,Y, 0x79 (R160); 4 cycles, 1 more on a page cross. -/
def execAdcAby (a : Addr) (s : State) : Result := .next (readInstr 4 true (.aby a) opAdc s)

/-- ADC (zp,X), 0x61 (R160); 6 cycles. -/
def execAdcIzx (zp : Byte) (s : State) : Result := .next (readInstr 6 false (.izx zp) opAdc s)

/-- ADC (zp),Y, 0x71 (R160); 5 cycles, 1 more on a page cross. -/
def execAdcIzy (zp : Byte) (s : State) : Result := .next (readInstr 5 true (.izy zp) opAdc s)

/-- SBC #m, 0xE9 (R161); 2 cycles. -/
def execSbcImm (m : Byte) (s : State) : Result := .next (immInstr 2 m opSbc s)

/-- SBC zp, 0xE5 (R161); 3 cycles. -/
def execSbcZp (zp : Byte) (s : State) : Result := .next (readInstr 3 false (.zp zp) opSbc s)

/-- SBC zp,X, 0xF5 (R161); 4 cycles. -/
def execSbcZpx (zp : Byte) (s : State) : Result := .next (readInstr 4 false (.zpx zp) opSbc s)

/-- SBC a, 0xED (R161); 4 cycles. -/
def execSbcAbs (a : Addr) (s : State) : Result := .next (readInstr 4 false (.abs a) opSbc s)

/-- SBC a,X, 0xFD (R161); 4 cycles, 1 more on a page cross. -/
def execSbcAbx (a : Addr) (s : State) : Result := .next (readInstr 4 true (.abx a) opSbc s)

/-- SBC a,Y, 0xF9 (R161); 4 cycles, 1 more on a page cross. -/
def execSbcAby (a : Addr) (s : State) : Result := .next (readInstr 4 true (.aby a) opSbc s)

/-- SBC (zp,X), 0xE1 (R161); 6 cycles. -/
def execSbcIzx (zp : Byte) (s : State) : Result := .next (readInstr 6 false (.izx zp) opSbc s)

/-- SBC (zp),Y, 0xF1 (R161); 5 cycles, 1 more on a page cross. -/
def execSbcIzy (zp : Byte) (s : State) : Result := .next (readInstr 5 true (.izy zp) opSbc s)

/-- AND #m, 0x29 (R162); 2 cycles. -/
def execAndImm (m : Byte) (s : State) : Result := .next (immInstr 2 m opAnd s)

/-- AND zp, 0x25 (R162); 3 cycles. -/
def execAndZp (zp : Byte) (s : State) : Result := .next (readInstr 3 false (.zp zp) opAnd s)

/-- AND zp,X, 0x35 (R162); 4 cycles. -/
def execAndZpx (zp : Byte) (s : State) : Result := .next (readInstr 4 false (.zpx zp) opAnd s)

/-- AND a, 0x2D (R162); 4 cycles. -/
def execAndAbs (a : Addr) (s : State) : Result := .next (readInstr 4 false (.abs a) opAnd s)

/-- AND a,X, 0x3D (R162); 4 cycles, 1 more on a page cross. -/
def execAndAbx (a : Addr) (s : State) : Result := .next (readInstr 4 true (.abx a) opAnd s)

/-- AND a,Y, 0x39 (R162); 4 cycles, 1 more on a page cross. -/
def execAndAby (a : Addr) (s : State) : Result := .next (readInstr 4 true (.aby a) opAnd s)

/-- AND (zp,X), 0x21 (R162); 6 cycles. -/
def execAndIzx (zp : Byte) (s : State) : Result := .next (readInstr 6 false (.izx zp) opAnd s)

/-- AND (zp),Y, 0x31 (R162); 5 cycles, 1 more on a page cross. -/
def execAndIzy (zp : Byte) (s : State) : Result := .next (readInstr 5 true (.izy zp) opAnd s)

/-- ORA #m, 0x09 (R163); 2 cycles. -/
def execOraImm (m : Byte) (s : State) : Result := .next (immInstr 2 m opOra s)

/-- ORA zp, 0x05 (R163); 3 cycles. -/
def execOraZp (zp : Byte) (s : State) : Result := .next (readInstr 3 false (.zp zp) opOra s)

/-- ORA zp,X, 0x15 (R163); 4 cycles. -/
def execOraZpx (zp : Byte) (s : State) : Result := .next (readInstr 4 false (.zpx zp) opOra s)

/-- ORA a, 0x0D (R163); 4 cycles. -/
def execOraAbs (a : Addr) (s : State) : Result := .next (readInstr 4 false (.abs a) opOra s)

/-- ORA a,X, 0x1D (R163); 4 cycles, 1 more on a page cross. -/
def execOraAbx (a : Addr) (s : State) : Result := .next (readInstr 4 true (.abx a) opOra s)

/-- ORA a,Y, 0x19 (R163); 4 cycles, 1 more on a page cross. -/
def execOraAby (a : Addr) (s : State) : Result := .next (readInstr 4 true (.aby a) opOra s)

/-- ORA (zp,X), 0x01 (R163); 6 cycles. -/
def execOraIzx (zp : Byte) (s : State) : Result := .next (readInstr 6 false (.izx zp) opOra s)

/-- ORA (zp),Y, 0x11 (R163); 5 cycles, 1 more on a page cross. -/
def execOraIzy (zp : Byte) (s : State) : Result := .next (readInstr 5 true (.izy zp) opOra s)

/-- EOR #m, 0x49 (R164); 2 cycles. -/
def execEorImm (m : Byte) (s : State) : Result := .next (immInstr 2 m opEor s)

/-- EOR zp, 0x45 (R164); 3 cycles. -/
def execEorZp (zp : Byte) (s : State) : Result := .next (readInstr 3 false (.zp zp) opEor s)

/-- EOR zp,X, 0x55 (R164); 4 cycles. -/
def execEorZpx (zp : Byte) (s : State) : Result := .next (readInstr 4 false (.zpx zp) opEor s)

/-- EOR a, 0x4D (R164); 4 cycles. -/
def execEorAbs (a : Addr) (s : State) : Result := .next (readInstr 4 false (.abs a) opEor s)

/-- EOR a,X, 0x5D (R164); 4 cycles, 1 more on a page cross. -/
def execEorAbx (a : Addr) (s : State) : Result := .next (readInstr 4 true (.abx a) opEor s)

/-- EOR a,Y, 0x59 (R164); 4 cycles, 1 more on a page cross. -/
def execEorAby (a : Addr) (s : State) : Result := .next (readInstr 4 true (.aby a) opEor s)

/-- EOR (zp,X), 0x41 (R164); 6 cycles. -/
def execEorIzx (zp : Byte) (s : State) : Result := .next (readInstr 6 false (.izx zp) opEor s)

/-- EOR (zp),Y, 0x51 (R164); 5 cycles, 1 more on a page cross. -/
def execEorIzy (zp : Byte) (s : State) : Result := .next (readInstr 5 true (.izy zp) opEor s)

/-- BIT zp, 0x24 (R168); 3 cycles. -/
def execBitZp (zp : Byte) (s : State) : Result := .next (readInstr 3 false (.zp zp) opBit s)

/-- BIT a, 0x2C (R168); 4 cycles. -/
def execBitAbs (a : Addr) (s : State) : Result := .next (readInstr 4 false (.abs a) opBit s)

/-- CMP #m, 0xC9 (R165); 2 cycles. -/
def execCmpImm (m : Byte) (s : State) : Result := .next (immInstr 2 m opCmp s)

/-- CMP zp, 0xC5 (R165); 3 cycles. -/
def execCmpZp (zp : Byte) (s : State) : Result := .next (readInstr 3 false (.zp zp) opCmp s)

/-- CMP zp,X, 0xD5 (R165); 4 cycles. -/
def execCmpZpx (zp : Byte) (s : State) : Result := .next (readInstr 4 false (.zpx zp) opCmp s)

/-- CMP a, 0xCD (R165); 4 cycles. -/
def execCmpAbs (a : Addr) (s : State) : Result := .next (readInstr 4 false (.abs a) opCmp s)

/-- CMP a,X, 0xDD (R165); 4 cycles, 1 more on a page cross. -/
def execCmpAbx (a : Addr) (s : State) : Result := .next (readInstr 4 true (.abx a) opCmp s)

/-- CMP a,Y, 0xD9 (R165); 4 cycles, 1 more on a page cross. -/
def execCmpAby (a : Addr) (s : State) : Result := .next (readInstr 4 true (.aby a) opCmp s)

/-- CMP (zp,X), 0xC1 (R165); 6 cycles. -/
def execCmpIzx (zp : Byte) (s : State) : Result := .next (readInstr 6 false (.izx zp) opCmp s)

/-- CMP (zp),Y, 0xD1 (R165); 5 cycles, 1 more on a page cross. -/
def execCmpIzy (zp : Byte) (s : State) : Result := .next (readInstr 5 true (.izy zp) opCmp s)

/-- CPX #m, 0xE0 (R166); 2 cycles. -/
def execCpxImm (m : Byte) (s : State) : Result := .next (immInstr 2 m opCpx s)

/-- CPX zp, 0xE4 (R166); 3 cycles. -/
def execCpxZp (zp : Byte) (s : State) : Result := .next (readInstr 3 false (.zp zp) opCpx s)

/-- CPX a, 0xEC (R166); 4 cycles. -/
def execCpxAbs (a : Addr) (s : State) : Result := .next (readInstr 4 false (.abs a) opCpx s)

/-- CPY #m, 0xC0 (R167); 2 cycles. -/
def execCpyImm (m : Byte) (s : State) : Result := .next (immInstr 2 m opCpy s)

/-- CPY zp, 0xC4 (R167); 3 cycles. -/
def execCpyZp (zp : Byte) (s : State) : Result := .next (readInstr 3 false (.zp zp) opCpy s)

/-- CPY a, 0xCC (R167); 4 cycles. -/
def execCpyAbs (a : Addr) (s : State) : Result := .next (readInstr 4 false (.abs a) opCpy s)

/-- INC zp, 0xE6 (R169); 5 cycles. -/
def execIncZp (zp : Byte) (s : State) : Result := .next (rmwInstr 5 (.zp zp) incResult finIncDec s)

/-- INC zp,X, 0xF6 (R169); 6 cycles. -/
def execIncZpx (zp : Byte) (s : State) : Result := .next (rmwInstr 6 (.zpx zp) incResult finIncDec s)

/-- INC a, 0xEE (R169); 6 cycles. -/
def execIncAbs (a : Addr) (s : State) : Result := .next (rmwInstr 6 (.abs a) incResult finIncDec s)

/-- INC a,X, 0xFE (R169); 7 cycles. -/
def execIncAbx (a : Addr) (s : State) : Result := .next (rmwInstr 7 (.abx a) incResult finIncDec s)

/-- DEC zp, 0xC6 (R170); 5 cycles. -/
def execDecZp (zp : Byte) (s : State) : Result := .next (rmwInstr 5 (.zp zp) decResult finIncDec s)

/-- DEC zp,X, 0xD6 (R170); 6 cycles. -/
def execDecZpx (zp : Byte) (s : State) : Result := .next (rmwInstr 6 (.zpx zp) decResult finIncDec s)

/-- DEC a, 0xCE (R170); 6 cycles. -/
def execDecAbs (a : Addr) (s : State) : Result := .next (rmwInstr 6 (.abs a) decResult finIncDec s)

/-- DEC a,X, 0xDE (R170); 7 cycles. -/
def execDecAbx (a : Addr) (s : State) : Result := .next (rmwInstr 7 (.abx a) decResult finIncDec s)

/-- INX, 0xE8 (R171); 2 cycles. -/
def execInx (s : State) : Result := .next (regInstr 2 opInx s)

/-- INY, 0xC8 (R172); 2 cycles. -/
def execIny (s : State) : Result := .next (regInstr 2 opIny s)

/-- DEX, 0xCA (R173); 2 cycles. -/
def execDex (s : State) : Result := .next (regInstr 2 opDex s)

/-- DEY, 0x88 (R174); 2 cycles. -/
def execDey (s : State) : Result := .next (regInstr 2 opDey s)

end Sys2Proof.Machine
end

