-- ==== Sys2Proof/Machine/Control.lean ====
section
/-! DEFINITION. Control transfer instructions (spec/44_control_flow.md). -/

namespace Sys2Proof.Machine

/-- JMP: `PC <- ea` (R200). -/
def jumpInstr (base : Nat) (m : Mode) (s : State) : State :=
  let e := resolve m (setCycles base s)
  setPc e.ea e.state

/-- JSR: the address of its own last byte is pushed (R201). -/
def callSub (a : Addr) (s : State) : State := setPc a (pushAddr (s.cpu.pc - 1) s)

/-- RTS: the popped address plus one (R202). -/
def opRts (s : State) : State :=
  let lo := pop s
  let hi := pop lo.2
  setPc ((hi.1 ++ lo.1) + 1) hi.2

/-- RTI (R203). -/
def opRti (s : State) : State := returnFromInterrupt s

/-- BRK: the entry sequence with kind BRK (R204). -/
def opBrk (s : State) : State := enterInterrupt .brk s

/-- BCC's condition on P (R206). -/
def condBcc (p : Byte) : Bool := !flag bitC p

/-- BCS's condition (R207). -/
def condBcs (p : Byte) : Bool := flag bitC p

/-- BEQ's condition (R208). -/
def condBeq (p : Byte) : Bool := flag bitZ p

/-- BNE's condition (R209). -/
def condBne (p : Byte) : Bool := !flag bitZ p

/-- BMI's condition (R210). -/
def condBmi (p : Byte) : Bool := flag bitN p

/-- BPL's condition (R211). -/
def condBpl (p : Byte) : Bool := !flag bitN p

/-- BVC's condition (R212). -/
def condBvc (p : Byte) : Bool := !flag bitV p

/-- BVS's condition (R213). -/
def condBvs (p : Byte) : Bool := flag bitV p

/-- JMP a, 0x4C (R200); 3 cycles. -/
def execJmpAbs (a : Addr) (s : State) : Result := .next (jumpInstr 3 (.abs a) s)

/-- JMP (ptr), 0x6C (R200); 5 cycles. -/
def execJmpInd (ptr : Addr) (s : State) : Result := .next (jumpInstr 5 (.ind ptr) s)

/-- JSR a, 0x20 (R201); 6 cycles. -/
def execJsr (a : Addr) (s : State) : Result := .next (regInstr 6 (callSub a) s)

/-- RTS, 0x60 (R202); 6 cycles. -/
def execRts (s : State) : Result := .next (regInstr 6 opRts s)

/-- RTI, 0x40 (R203); 6 cycles. -/
def execRti (s : State) : Result := .next (regInstr 6 opRti s)

/-- BRK, 0x00 (R204); 7 cycles. -/
def execBrk (s : State) : Result := .next (regInstr 7 opBrk s)

/-- BCC off, 0x90 (R206); 2 cycles, 3 or 4 when taken. -/
def execBcc (off : Byte) (s : State) : Result := .next (branchInstr condBcc off s)

/-- BCS off, 0xB0 (R207); 2 cycles, 3 or 4 when taken. -/
def execBcs (off : Byte) (s : State) : Result := .next (branchInstr condBcs off s)

/-- BEQ off, 0xF0 (R208); 2 cycles, 3 or 4 when taken. -/
def execBeq (off : Byte) (s : State) : Result := .next (branchInstr condBeq off s)

/-- BNE off, 0xD0 (R209); 2 cycles, 3 or 4 when taken. -/
def execBne (off : Byte) (s : State) : Result := .next (branchInstr condBne off s)

/-- BMI off, 0x30 (R210); 2 cycles, 3 or 4 when taken. -/
def execBmi (off : Byte) (s : State) : Result := .next (branchInstr condBmi off s)

/-- BPL off, 0x10 (R211); 2 cycles, 3 or 4 when taken. -/
def execBpl (off : Byte) (s : State) : Result := .next (branchInstr condBpl off s)

/-- BVC off, 0x50 (R212); 2 cycles, 3 or 4 when taken. -/
def execBvc (off : Byte) (s : State) : Result := .next (branchInstr condBvc off s)

/-- BVS off, 0x70 (R213); 2 cycles, 3 or 4 when taken. -/
def execBvs (off : Byte) (s : State) : Result := .next (branchInstr condBvs off s)

end Sys2Proof.Machine
end

