-- ==== Sys2Proof/Machine/Shift.lean ====
section
/-! DEFINITION. Shift and rotate instructions (spec/43_shift_rotate.md). -/

namespace Sys2Proof.Machine

/-- The accumulator form of a shift (R194). -/
def shiftA (res : Byte → Byte → Byte) (out : Byte → Bool) (s : State) : State :=
  let r := res s.cpu.a s.cpu.p
  setP (shiftFlags (out s.cpu.a) r s.cpu.p) (setA r s)

/-- ASL A (R190). -/
def opAslA (s : State) : State := shiftA aslResult outLeft s

/-- LSR A (R191). -/
def opLsrA (s : State) : State := shiftA lsrResult outRight s

/-- ROL A (R192). -/
def opRolA (s : State) : State := shiftA rolResult outLeft s

/-- ROR A (R193). -/
def opRorA (s : State) : State := shiftA rorResult outRight s

/-- The flags of ASL and ROL on memory: C is the old bit 7 (R190, R192). -/
def finLeft (m r : Byte) (s : State) : State := setP (shiftFlags (outLeft m) r s.cpu.p) s

/-- The flags of LSR and ROR on memory: C is the old bit 0 (R191, R193). -/
def finRight (m r : Byte) (s : State) : State := setP (shiftFlags (outRight m) r s.cpu.p) s

/-- ASL A, 0x0A (R190); 2 cycles. -/
def execAslAcc (s : State) : Result := .next (regInstr 2 opAslA s)

/-- ASL zp, 0x06 (R190); 5 cycles. -/
def execAslZp (zp : Byte) (s : State) : Result := .next (rmwInstr 5 (.zp zp) aslResult finLeft s)

/-- ASL zp,X, 0x16 (R190); 6 cycles. -/
def execAslZpx (zp : Byte) (s : State) : Result := .next (rmwInstr 6 (.zpx zp) aslResult finLeft s)

/-- ASL a, 0x0E (R190); 6 cycles. -/
def execAslAbs (a : Addr) (s : State) : Result := .next (rmwInstr 6 (.abs a) aslResult finLeft s)

/-- ASL a,X, 0x1E (R190); 7 cycles. -/
def execAslAbx (a : Addr) (s : State) : Result := .next (rmwInstr 7 (.abx a) aslResult finLeft s)

/-- LSR A, 0x4A (R191); 2 cycles. -/
def execLsrAcc (s : State) : Result := .next (regInstr 2 opLsrA s)

/-- LSR zp, 0x46 (R191); 5 cycles. -/
def execLsrZp (zp : Byte) (s : State) : Result := .next (rmwInstr 5 (.zp zp) lsrResult finRight s)

/-- LSR zp,X, 0x56 (R191); 6 cycles. -/
def execLsrZpx (zp : Byte) (s : State) : Result := .next (rmwInstr 6 (.zpx zp) lsrResult finRight s)

/-- LSR a, 0x4E (R191); 6 cycles. -/
def execLsrAbs (a : Addr) (s : State) : Result := .next (rmwInstr 6 (.abs a) lsrResult finRight s)

/-- LSR a,X, 0x5E (R191); 7 cycles. -/
def execLsrAbx (a : Addr) (s : State) : Result := .next (rmwInstr 7 (.abx a) lsrResult finRight s)

/-- ROL A, 0x2A (R192); 2 cycles. -/
def execRolAcc (s : State) : Result := .next (regInstr 2 opRolA s)

/-- ROL zp, 0x26 (R192); 5 cycles. -/
def execRolZp (zp : Byte) (s : State) : Result := .next (rmwInstr 5 (.zp zp) rolResult finLeft s)

/-- ROL zp,X, 0x36 (R192); 6 cycles. -/
def execRolZpx (zp : Byte) (s : State) : Result := .next (rmwInstr 6 (.zpx zp) rolResult finLeft s)

/-- ROL a, 0x2E (R192); 6 cycles. -/
def execRolAbs (a : Addr) (s : State) : Result := .next (rmwInstr 6 (.abs a) rolResult finLeft s)

/-- ROL a,X, 0x3E (R192); 7 cycles. -/
def execRolAbx (a : Addr) (s : State) : Result := .next (rmwInstr 7 (.abx a) rolResult finLeft s)

/-- ROR A, 0x6A (R193); 2 cycles. -/
def execRorAcc (s : State) : Result := .next (regInstr 2 opRorA s)

/-- ROR zp, 0x66 (R193); 5 cycles. -/
def execRorZp (zp : Byte) (s : State) : Result := .next (rmwInstr 5 (.zp zp) rorResult finRight s)

/-- ROR zp,X, 0x76 (R193); 6 cycles. -/
def execRorZpx (zp : Byte) (s : State) : Result := .next (rmwInstr 6 (.zpx zp) rorResult finRight s)

/-- ROR a, 0x6E (R193); 6 cycles. -/
def execRorAbs (a : Addr) (s : State) : Result := .next (rmwInstr 6 (.abs a) rorResult finRight s)

/-- ROR a,X, 0x7E (R193); 7 cycles. -/
def execRorAbx (a : Addr) (s : State) : Result := .next (rmwInstr 7 (.abx a) rorResult finRight s)

end Sys2Proof.Machine
end

