-- ==== Sys2Proof/Machine/Stack.lean ====
section
/-! DEFINITION. Stack, flag and no-operation instructions (spec/45_stack_flags_nop.md). -/

namespace Sys2Proof.Machine

/-- PHA (R220). -/
def opPha (s : State) : State := push s.cpu.a s

/-- PHP: the pushed byte has the break bit set (R221). -/
def opPhp (s : State) : State := push (packP true s.cpu.p) s

/-- PLA (R222). -/
def opPla (s : State) : State :=
  let r := pop s
  loadA r.1 r.2

/-- PLP (R223). -/
def opPlp (s : State) : State :=
  let r := pop s
  setP (unpackP r.1) r.2

/-- CLC (R224). -/
def opClc (s : State) : State := setP (setFlag bitC false s.cpu.p) s

/-- SEC (R225). -/
def opSec (s : State) : State := setP (setFlag bitC true s.cpu.p) s

/-- CLI (R226). -/
def opCli (s : State) : State := setP (setFlag bitI false s.cpu.p) s

/-- SEI (R227). -/
def opSei (s : State) : State := setP (setFlag bitI true s.cpu.p) s

/-- CLV (R228). -/
def opClv (s : State) : State := setP (setFlag bitV false s.cpu.p) s

/-- CLD (R229). -/
def opCld (s : State) : State := setP (setFlag bitD false s.cpu.p) s

/-- SED (R230). -/
def opSed (s : State) : State := setP (setFlag bitD true s.cpu.p) s

/-- NOP does nothing: PC already points to the next instruction (R231). -/
def noOperation (s : State) : State := s

/-- PHA, 0x48 (R220); 3 cycles. -/
def execPha (s : State) : Result := .next (regInstr 3 opPha s)

/-- PHP, 0x08 (R221); 3 cycles. -/
def execPhp (s : State) : Result := .next (regInstr 3 opPhp s)

/-- PLA, 0x68 (R222); 4 cycles. -/
def execPla (s : State) : Result := .next (regInstr 4 opPla s)

/-- PLP, 0x28 (R223); 4 cycles. -/
def execPlp (s : State) : Result := .next (regInstr 4 opPlp s)

/-- CLC, 0x18 (R224); 2 cycles. -/
def execClc (s : State) : Result := .next (regInstr 2 opClc s)

/-- SEC, 0x38 (R225); 2 cycles. -/
def execSec (s : State) : Result := .next (regInstr 2 opSec s)

/-- CLI, 0x58 (R226); 2 cycles. -/
def execCli (s : State) : Result := .next (regInstr 2 opCli s)

/-- SEI, 0x78 (R227); 2 cycles. -/
def execSei (s : State) : Result := .next (regInstr 2 opSei s)

/-- CLV, 0xB8 (R228); 2 cycles. -/
def execClv (s : State) : Result := .next (regInstr 2 opClv s)

/-- CLD, 0xD8 (R229); 2 cycles. -/
def execCld (s : State) : Result := .next (regInstr 2 opCld s)

/-- SED, 0xF8 (R230); 2 cycles. -/
def execSed (s : State) : Result := .next (regInstr 2 opSed s)

/-- NOP, 0xEA (R231); 2 cycles. -/
def execNop (s : State) : Result := .next (regInstr 2 noOperation s)

end Sys2Proof.Machine
end

