-- ==== Sys2Proof/Machine/Undocumented.lean ====
section
/-! DEFINITION. The undocumented opcodes (spec/46_undocumented.md): the 86 with a defined effect and the 19
that degrade to a no-operation of their addressing mode's length and cycle count. All of them run (DESIGN CHOICE,
notes/assumptions/14.md). -/

namespace Sys2Proof.Machine

/-- LAX: A and X take the same byte (R241). -/
def opLax (m : Byte) (s : State) : State := updateNZ m (setX m (setA m s))

/-- The byte SAX stores (R242). -/
def regAandX (c : Cpu) : Byte := c.a &&& c.x

/-- LAS: A, X and SP take the byte and SP (R253). -/
def opLas (m : Byte) (s : State) : State :=
  let r := m &&& s.cpu.sp
  updateNZ r (setSp r (setX r (setA r s)))

/-- `P.C <- c`. -/
def setCarry (c : Bool) (s : State) : State := setP (setFlag bitC c s.cpu.p) s

/-- SLO after the write: C from the shift, then ORA (R245). -/
def finSlo (m r : Byte) (s : State) : State := opOra r (setCarry (outLeft m) s)

/-- RLA after the write: C from the rotate, then AND (R246). -/
def finRla (m r : Byte) (s : State) : State := opAnd r (setCarry (outLeft m) s)

/-- SRE after the write: C from the shift, then EOR (R247). -/
def finSre (m r : Byte) (s : State) : State := opEor r (setCarry (outRight m) s)

/-- RRA after the write: the rotate's carry is the addition's carry in (R248). -/
def finRra (m r : Byte) (s : State) : State := addCore r (setCarry (outRight m) s)

/-- DCP after the write: CMP with the result (R243). -/
def finDcp (_m r : Byte) (s : State) : State := opCmp r s

/-- ISC after the write: SBC of the result (R244). -/
def finIsc (_m r : Byte) (s : State) : State := opSbc r s

/-- ANC: AND, then C is a copy of N (R249). -/
def opAnc (m : Byte) (s : State) : State :=
  let s1 := opAnd m s
  setCarry (flag bitN s1.cpu.p) s1

/-- ALR: AND, then LSR A (R250). -/
def opAlr (m : Byte) (s : State) : State :=
  let t := s.cpu.a &&& m
  loadA (t >>> 1) (setCarry (t.getLsbD 0) s)

/-- ARR: AND, then ROR A, with its own C and V (R251). -/
def opArr (m : Byte) (s : State) : State :=
  let r := rorResult (s.cpu.a &&& m) s.cpu.p
  setP (arrFlags r s.cpu.p) (setA r s)

/-- AXS: X becomes (A and X) minus the operand, C as a compare (R252). -/
def opAxs (m : Byte) (s : State) : State :=
  let t := s.cpu.a &&& s.cpu.x
  setP (compareFlags t m s.cpu.p) (setX (t - m) s)

/-- A no-operation with an operand: the byte read is dropped (R256, R257). -/
def discard (_m : Byte) (s : State) : State := s

/-- LAX zp, 0xA7 (R241); 3 cycles. -/
def execLaxZp (zp : Byte) (s : State) : Result := .next (readInstr 3 false (.zp zp) opLax s)

/-- LAX zp,Y, 0xB7 (R241); 4 cycles. -/
def execLaxZpy (zp : Byte) (s : State) : Result := .next (readInstr 4 false (.zpy zp) opLax s)

/-- LAX a, 0xAF (R241); 4 cycles. -/
def execLaxAbs (a : Addr) (s : State) : Result := .next (readInstr 4 false (.abs a) opLax s)

/-- LAX a,Y, 0xBF (R241); 4 cycles, 1 more on a page cross. -/
def execLaxAby (a : Addr) (s : State) : Result := .next (readInstr 4 true (.aby a) opLax s)

/-- LAX (zp,X), 0xA3 (R241); 6 cycles. -/
def execLaxIzx (zp : Byte) (s : State) : Result := .next (readInstr 6 false (.izx zp) opLax s)

/-- LAX (zp),Y, 0xB3 (R241); 5 cycles, 1 more on a page cross. -/
def execLaxIzy (zp : Byte) (s : State) : Result := .next (readInstr 5 true (.izy zp) opLax s)

/-- SAX zp, 0x87 (R242); 3 cycles. -/
def execSaxZp (zp : Byte) (s : State) : Result := .next (writeInstr 3 (.zp zp) regAandX s)

/-- SAX zp,Y, 0x97 (R242); 4 cycles. -/
def execSaxZpy (zp : Byte) (s : State) : Result := .next (writeInstr 4 (.zpy zp) regAandX s)

/-- SAX a, 0x8F (R242); 4 cycles. -/
def execSaxAbs (a : Addr) (s : State) : Result := .next (writeInstr 4 (.abs a) regAandX s)

/-- SAX (zp,X), 0x83 (R242); 6 cycles. -/
def execSaxIzx (zp : Byte) (s : State) : Result := .next (writeInstr 6 (.izx zp) regAandX s)

/-- LAS a,Y, 0xBB (R253); 4 cycles, 1 more on a page cross. -/
def execLasAby (a : Addr) (s : State) : Result := .next (readInstr 4 true (.aby a) opLas s)

/-- SLO zp, 0x07 (R245); 5 cycles. -/
def execSloZp (zp : Byte) (s : State) : Result := .next (rmwInstr 5 (.zp zp) aslResult finSlo s)

/-- SLO zp,X, 0x17 (R245); 6 cycles. -/
def execSloZpx (zp : Byte) (s : State) : Result := .next (rmwInstr 6 (.zpx zp) aslResult finSlo s)

/-- SLO a, 0x0F (R245); 6 cycles. -/
def execSloAbs (a : Addr) (s : State) : Result := .next (rmwInstr 6 (.abs a) aslResult finSlo s)

/-- SLO a,X, 0x1F (R245); 7 cycles. -/
def execSloAbx (a : Addr) (s : State) : Result := .next (rmwInstr 7 (.abx a) aslResult finSlo s)

/-- SLO a,Y, 0x1B (R245); 7 cycles. -/
def execSloAby (a : Addr) (s : State) : Result := .next (rmwInstr 7 (.aby a) aslResult finSlo s)

/-- SLO (zp,X), 0x03 (R245); 8 cycles. -/
def execSloIzx (zp : Byte) (s : State) : Result := .next (rmwInstr 8 (.izx zp) aslResult finSlo s)

/-- SLO (zp),Y, 0x13 (R245); 8 cycles. -/
def execSloIzy (zp : Byte) (s : State) : Result := .next (rmwInstr 8 (.izy zp) aslResult finSlo s)

/-- RLA zp, 0x27 (R246); 5 cycles. -/
def execRlaZp (zp : Byte) (s : State) : Result := .next (rmwInstr 5 (.zp zp) rolResult finRla s)

/-- RLA zp,X, 0x37 (R246); 6 cycles. -/
def execRlaZpx (zp : Byte) (s : State) : Result := .next (rmwInstr 6 (.zpx zp) rolResult finRla s)

/-- RLA a, 0x2F (R246); 6 cycles. -/
def execRlaAbs (a : Addr) (s : State) : Result := .next (rmwInstr 6 (.abs a) rolResult finRla s)

/-- RLA a,X, 0x3F (R246); 7 cycles. -/
def execRlaAbx (a : Addr) (s : State) : Result := .next (rmwInstr 7 (.abx a) rolResult finRla s)

/-- RLA a,Y, 0x3B (R246); 7 cycles. -/
def execRlaAby (a : Addr) (s : State) : Result := .next (rmwInstr 7 (.aby a) rolResult finRla s)

/-- RLA (zp,X), 0x23 (R246); 8 cycles. -/
def execRlaIzx (zp : Byte) (s : State) : Result := .next (rmwInstr 8 (.izx zp) rolResult finRla s)

/-- RLA (zp),Y, 0x33 (R246); 8 cycles. -/
def execRlaIzy (zp : Byte) (s : State) : Result := .next (rmwInstr 8 (.izy zp) rolResult finRla s)

/-- SRE zp, 0x47 (R247); 5 cycles. -/
def execSreZp (zp : Byte) (s : State) : Result := .next (rmwInstr 5 (.zp zp) lsrResult finSre s)

/-- SRE zp,X, 0x57 (R247); 6 cycles. -/
def execSreZpx (zp : Byte) (s : State) : Result := .next (rmwInstr 6 (.zpx zp) lsrResult finSre s)

/-- SRE a, 0x4F (R247); 6 cycles. -/
def execSreAbs (a : Addr) (s : State) : Result := .next (rmwInstr 6 (.abs a) lsrResult finSre s)

/-- SRE a,X, 0x5F (R247); 7 cycles. -/
def execSreAbx (a : Addr) (s : State) : Result := .next (rmwInstr 7 (.abx a) lsrResult finSre s)

/-- SRE a,Y, 0x5B (R247); 7 cycles. -/
def execSreAby (a : Addr) (s : State) : Result := .next (rmwInstr 7 (.aby a) lsrResult finSre s)

/-- SRE (zp,X), 0x43 (R247); 8 cycles. -/
def execSreIzx (zp : Byte) (s : State) : Result := .next (rmwInstr 8 (.izx zp) lsrResult finSre s)

/-- SRE (zp),Y, 0x53 (R247); 8 cycles. -/
def execSreIzy (zp : Byte) (s : State) : Result := .next (rmwInstr 8 (.izy zp) lsrResult finSre s)

/-- RRA zp, 0x67 (R248); 5 cycles. -/
def execRraZp (zp : Byte) (s : State) : Result := .next (rmwInstr 5 (.zp zp) rorResult finRra s)

/-- RRA zp,X, 0x77 (R248); 6 cycles. -/
def execRraZpx (zp : Byte) (s : State) : Result := .next (rmwInstr 6 (.zpx zp) rorResult finRra s)

/-- RRA a, 0x6F (R248); 6 cycles. -/
def execRraAbs (a : Addr) (s : State) : Result := .next (rmwInstr 6 (.abs a) rorResult finRra s)

/-- RRA a,X, 0x7F (R248); 7 cycles. -/
def execRraAbx (a : Addr) (s : State) : Result := .next (rmwInstr 7 (.abx a) rorResult finRra s)

/-- RRA a,Y, 0x7B (R248); 7 cycles. -/
def execRraAby (a : Addr) (s : State) : Result := .next (rmwInstr 7 (.aby a) rorResult finRra s)

/-- RRA (zp,X), 0x63 (R248); 8 cycles. -/
def execRraIzx (zp : Byte) (s : State) : Result := .next (rmwInstr 8 (.izx zp) rorResult finRra s)

/-- RRA (zp),Y, 0x73 (R248); 8 cycles. -/
def execRraIzy (zp : Byte) (s : State) : Result := .next (rmwInstr 8 (.izy zp) rorResult finRra s)

/-- DCP zp, 0xC7 (R243); 5 cycles. -/
def execDcpZp (zp : Byte) (s : State) : Result := .next (rmwInstr 5 (.zp zp) decResult finDcp s)

/-- DCP zp,X, 0xD7 (R243); 6 cycles. -/
def execDcpZpx (zp : Byte) (s : State) : Result := .next (rmwInstr 6 (.zpx zp) decResult finDcp s)

/-- DCP a, 0xCF (R243); 6 cycles. -/
def execDcpAbs (a : Addr) (s : State) : Result := .next (rmwInstr 6 (.abs a) decResult finDcp s)

/-- DCP a,X, 0xDF (R243); 7 cycles. -/
def execDcpAbx (a : Addr) (s : State) : Result := .next (rmwInstr 7 (.abx a) decResult finDcp s)

/-- DCP a,Y, 0xDB (R243); 7 cycles. -/
def execDcpAby (a : Addr) (s : State) : Result := .next (rmwInstr 7 (.aby a) decResult finDcp s)

/-- DCP (zp,X), 0xC3 (R243); 8 cycles. -/
def execDcpIzx (zp : Byte) (s : State) : Result := .next (rmwInstr 8 (.izx zp) decResult finDcp s)

/-- DCP (zp),Y, 0xD3 (R243); 8 cycles. -/
def execDcpIzy (zp : Byte) (s : State) : Result := .next (rmwInstr 8 (.izy zp) decResult finDcp s)

/-- ISC zp, 0xE7 (R244); 5 cycles. -/
def execIscZp (zp : Byte) (s : State) : Result := .next (rmwInstr 5 (.zp zp) incResult finIsc s)

/-- ISC zp,X, 0xF7 (R244); 6 cycles. -/
def execIscZpx (zp : Byte) (s : State) : Result := .next (rmwInstr 6 (.zpx zp) incResult finIsc s)

/-- ISC a, 0xEF (R244); 6 cycles. -/
def execIscAbs (a : Addr) (s : State) : Result := .next (rmwInstr 6 (.abs a) incResult finIsc s)

/-- ISC a,X, 0xFF (R244); 7 cycles. -/
def execIscAbx (a : Addr) (s : State) : Result := .next (rmwInstr 7 (.abx a) incResult finIsc s)

/-- ISC a,Y, 0xFB (R244); 7 cycles. -/
def execIscAby (a : Addr) (s : State) : Result := .next (rmwInstr 7 (.aby a) incResult finIsc s)

/-- ISC (zp,X), 0xE3 (R244); 8 cycles. -/
def execIscIzx (zp : Byte) (s : State) : Result := .next (rmwInstr 8 (.izx zp) incResult finIsc s)

/-- ISC (zp),Y, 0xF3 (R244); 8 cycles. -/
def execIscIzy (zp : Byte) (s : State) : Result := .next (rmwInstr 8 (.izy zp) incResult finIsc s)

/-- ANC #m, 0x0B (R249); 2 cycles. -/
def execAncImm0B (m : Byte) (s : State) : Result := .next (immInstr 2 m opAnc s)

/-- ANC #m, 0x2B (R249); 2 cycles. -/
def execAncImm2B (m : Byte) (s : State) : Result := .next (immInstr 2 m opAnc s)

/-- ALR #m, 0x4B (R250); 2 cycles. -/
def execAlrImm (m : Byte) (s : State) : Result := .next (immInstr 2 m opAlr s)

/-- ARR #m, 0x6B (R251); 2 cycles. -/
def execArrImm (m : Byte) (s : State) : Result := .next (immInstr 2 m opArr s)

/-- AXS #m, 0xCB (R252); 2 cycles. -/
def execAxsImm (m : Byte) (s : State) : Result := .next (immInstr 2 m opAxs s)

/-- SBC #m, 0xEB (R254); 2 cycles. -/
def execSbcImmEB (m : Byte) (s : State) : Result := .next (immInstr 2 m opSbc s)

/-- NOP, 0x1A (R255); 2 cycles. -/
def execNopImp1A (s : State) : Result := .next (regInstr 2 noOperation s)

/-- NOP, 0x3A (R255); 2 cycles. -/
def execNopImp3A (s : State) : Result := .next (regInstr 2 noOperation s)

/-- NOP, 0x5A (R255); 2 cycles. -/
def execNopImp5A (s : State) : Result := .next (regInstr 2 noOperation s)

/-- NOP, 0x7A (R255); 2 cycles. -/
def execNopImp7A (s : State) : Result := .next (regInstr 2 noOperation s)

/-- NOP, 0xDA (R255); 2 cycles. -/
def execNopImpDA (s : State) : Result := .next (regInstr 2 noOperation s)

/-- NOP, 0xFA (R255); 2 cycles. -/
def execNopImpFA (s : State) : Result := .next (regInstr 2 noOperation s)

/-- NOP #m, 0x80 (R256); 2 cycles. -/
def execNopImm80 (m : Byte) (s : State) : Result := .next (immInstr 2 m discard s)

/-- NOP #m, 0x82 (R256); 2 cycles. -/
def execNopImm82 (m : Byte) (s : State) : Result := .next (immInstr 2 m discard s)

/-- NOP #m, 0x89 (R256); 2 cycles. -/
def execNopImm89 (m : Byte) (s : State) : Result := .next (immInstr 2 m discard s)

/-- NOP #m, 0xC2 (R256); 2 cycles. -/
def execNopImmC2 (m : Byte) (s : State) : Result := .next (immInstr 2 m discard s)

/-- NOP #m, 0xE2 (R256); 2 cycles. -/
def execNopImmE2 (m : Byte) (s : State) : Result := .next (immInstr 2 m discard s)

/-- NOP zp, 0x04 (R257); 3 cycles. -/
def execNopZp04 (zp : Byte) (s : State) : Result := .next (readInstr 3 false (.zp zp) discard s)

/-- NOP zp, 0x44 (R257); 3 cycles. -/
def execNopZp44 (zp : Byte) (s : State) : Result := .next (readInstr 3 false (.zp zp) discard s)

/-- NOP zp, 0x64 (R257); 3 cycles. -/
def execNopZp64 (zp : Byte) (s : State) : Result := .next (readInstr 3 false (.zp zp) discard s)

/-- NOP zp,X, 0x14 (R257); 4 cycles. -/
def execNopZpx14 (zp : Byte) (s : State) : Result := .next (readInstr 4 false (.zpx zp) discard s)

/-- NOP zp,X, 0x34 (R257); 4 cycles. -/
def execNopZpx34 (zp : Byte) (s : State) : Result := .next (readInstr 4 false (.zpx zp) discard s)

/-- NOP zp,X, 0x54 (R257); 4 cycles. -/
def execNopZpx54 (zp : Byte) (s : State) : Result := .next (readInstr 4 false (.zpx zp) discard s)

/-- NOP zp,X, 0x74 (R257); 4 cycles. -/
def execNopZpx74 (zp : Byte) (s : State) : Result := .next (readInstr 4 false (.zpx zp) discard s)

/-- NOP zp,X, 0xD4 (R257); 4 cycles. -/
def execNopZpxD4 (zp : Byte) (s : State) : Result := .next (readInstr 4 false (.zpx zp) discard s)

/-- NOP zp,X, 0xF4 (R257); 4 cycles. -/
def execNopZpxF4 (zp : Byte) (s : State) : Result := .next (readInstr 4 false (.zpx zp) discard s)

/-- NOP a, 0x0C (R257); 4 cycles. -/
def execNopAbs0C (a : Addr) (s : State) : Result := .next (readInstr 4 false (.abs a) discard s)

/-- NOP a,X, 0x1C (R257); 4 cycles, 1 more on a page cross. -/
def execNopAbx1C (a : Addr) (s : State) : Result := .next (readInstr 4 true (.abx a) discard s)

/-- NOP a,X, 0x3C (R257); 4 cycles, 1 more on a page cross. -/
def execNopAbx3C (a : Addr) (s : State) : Result := .next (readInstr 4 true (.abx a) discard s)

/-- NOP a,X, 0x5C (R257); 4 cycles, 1 more on a page cross. -/
def execNopAbx5C (a : Addr) (s : State) : Result := .next (readInstr 4 true (.abx a) discard s)

/-- NOP a,X, 0x7C (R257); 4 cycles, 1 more on a page cross. -/
def execNopAbx7C (a : Addr) (s : State) : Result := .next (readInstr 4 true (.abx a) discard s)

/-- NOP a,X, 0xDC (R257); 4 cycles, 1 more on a page cross. -/
def execNopAbxDC (a : Addr) (s : State) : Result := .next (readInstr 4 true (.abx a) discard s)

/-- NOP a,X, 0xFC (R257); 4 cycles, 1 more on a page cross. -/
def execNopAbxFC (a : Addr) (s : State) : Result := .next (readInstr 4 true (.abx a) discard s)

/-- NOP (JAM), 0x02 (R259); 2 cycles. -/
def execJam02 (s : State) : Result := .next (regInstr 2 noOperation s)

/-- NOP (JAM), 0x12 (R259); 2 cycles. -/
def execJam12 (s : State) : Result := .next (regInstr 2 noOperation s)

/-- NOP (JAM), 0x22 (R259); 2 cycles. -/
def execJam22 (s : State) : Result := .next (regInstr 2 noOperation s)

/-- NOP (JAM), 0x32 (R259); 2 cycles. -/
def execJam32 (s : State) : Result := .next (regInstr 2 noOperation s)

/-- NOP (JAM), 0x42 (R259); 2 cycles. -/
def execJam42 (s : State) : Result := .next (regInstr 2 noOperation s)

/-- NOP (JAM), 0x52 (R259); 2 cycles. -/
def execJam52 (s : State) : Result := .next (regInstr 2 noOperation s)

/-- NOP (JAM), 0x62 (R259); 2 cycles. -/
def execJam62 (s : State) : Result := .next (regInstr 2 noOperation s)

/-- NOP (JAM), 0x72 (R259); 2 cycles. -/
def execJam72 (s : State) : Result := .next (regInstr 2 noOperation s)

/-- NOP (ANE) #m, 0x8B (R258); 2 cycles. -/
def execAneImm (m : Byte) (s : State) : Result := .next (immInstr 2 m discard s)

/-- NOP (JAM), 0x92 (R259); 2 cycles. -/
def execJam92 (s : State) : Result := .next (regInstr 2 noOperation s)

/-- NOP (SHA) (zp),Y, 0x93 (R258); 6 cycles. -/
def execShaIzy (zp : Byte) (s : State) : Result := .next (resolveInstr 6 (.izy zp) s)

/-- NOP (TAS) a,Y, 0x9B (R258); 5 cycles. -/
def execTasAby (a : Addr) (s : State) : Result := .next (resolveInstr 5 (.aby a) s)

/-- NOP (SHY) a,X, 0x9C (R258); 5 cycles. -/
def execShyAbx (a : Addr) (s : State) : Result := .next (resolveInstr 5 (.abx a) s)

/-- NOP (SHX) a,Y, 0x9E (R258); 5 cycles. -/
def execShxAby (a : Addr) (s : State) : Result := .next (resolveInstr 5 (.aby a) s)

/-- NOP (SHA) a,Y, 0x9F (R258); 5 cycles. -/
def execShaAby (a : Addr) (s : State) : Result := .next (resolveInstr 5 (.aby a) s)

/-- NOP (LXA) #m, 0xAB (R258); 2 cycles. -/
def execLxaImm (m : Byte) (s : State) : Result := .next (immInstr 2 m discard s)

/-- NOP (JAM), 0xB2 (R259); 2 cycles. -/
def execJamB2 (s : State) : Result := .next (regInstr 2 noOperation s)

/-- NOP (JAM), 0xD2 (R259); 2 cycles. -/
def execJamD2 (s : State) : Result := .next (regInstr 2 noOperation s)

/-- NOP (JAM), 0xF2 (R259); 2 cycles. -/
def execJamF2 (s : State) : Result := .next (regInstr 2 noOperation s)

end Sys2Proof.Machine
end

