-- ==== Sys2Proof/Syntax.lean ====
section
/-! DEFINITION. The instruction set (spec/30_encoding.md): the thirteen formats and one constructor of
`Instr` for each of the 256 rows of spec/opcode_table.json, its operands as wide as the encoding makes
them (R81, R83). A row that shares its mnemonic and format with another (the undocumented no-operations,
ANC, the second SBC, the JAM opcodes) carries its opcode byte in its name. -/

namespace Sys2Proof

/-- The 13 formats, one per addressing mode (R81). -/
inductive Format where
  | imp
  | acc
  | imm
  | zp
  | zpx
  | zpy
  | abs
  | abx
  | aby
  | ind
  | izx
  | izy
  | rel
  deriving DecidableEq, Repr

/-- The instructions. `m`, `zp` and `off` are byte 1; `a` and `ptr` are bytes 2 and 1, byte 1 the low one.
The rows with an operand stand first, those without after them, each in the table's order. -/
inductive Instr where
  /-- 0x01, ORA (zp,X) (R163, R116). -/
  | oraIzx (zp : Byte)
  /-- 0x03, SLO (zp,X) (R245, R116). -/
  | sloIzx (zp : Byte)
  /-- 0x04, NOP zp (R257, R109). -/
  | nopZp04 (zp : Byte)
  /-- 0x05, ORA zp (R163, R109). -/
  | oraZp (zp : Byte)
  /-- 0x06, ASL zp (R190, R109). -/
  | aslZp (zp : Byte)
  /-- 0x07, SLO zp (R245, R109). -/
  | sloZp (zp : Byte)
  /-- 0x09, ORA #m (R163, R108). -/
  | oraImm (m : Byte)
  /-- 0x0B, ANC #m (R249, R108). -/
  | ancImm0B (m : Byte)
  /-- 0x0C, NOP a (R257, R112). -/
  | nopAbs0C (a : Addr)
  /-- 0x0D, ORA a (R163, R112). -/
  | oraAbs (a : Addr)
  /-- 0x0E, ASL a (R190, R112). -/
  | aslAbs (a : Addr)
  /-- 0x0F, SLO a (R245, R112). -/
  | sloAbs (a : Addr)
  /-- 0x10, BPL off (R211, R118). -/
  | bpl (off : Byte)
  /-- 0x11, ORA (zp),Y (R163, R117). -/
  | oraIzy (zp : Byte)
  /-- 0x13, SLO (zp),Y (R245, R117). -/
  | sloIzy (zp : Byte)
  /-- 0x14, NOP zp,X (R257, R110). -/
  | nopZpx14 (zp : Byte)
  /-- 0x15, ORA zp,X (R163, R110). -/
  | oraZpx (zp : Byte)
  /-- 0x16, ASL zp,X (R190, R110). -/
  | aslZpx (zp : Byte)
  /-- 0x17, SLO zp,X (R245, R110). -/
  | sloZpx (zp : Byte)
  /-- 0x19, ORA a,Y (R163, R114). -/
  | oraAby (a : Addr)
  /-- 0x1B, SLO a,Y (R245, R114). -/
  | sloAby (a : Addr)
  /-- 0x1C, NOP a,X (R257, R113). -/
  | nopAbx1C (a : Addr)
  /-- 0x1D, ORA a,X (R163, R113). -/
  | oraAbx (a : Addr)
  /-- 0x1E, ASL a,X (R190, R113). -/
  | aslAbx (a : Addr)
  /-- 0x1F, SLO a,X (R245, R113). -/
  | sloAbx (a : Addr)
  /-- 0x20, JSR a (R201, R112). -/
  | jsr (a : Addr)
  /-- 0x21, AND (zp,X) (R162, R116). -/
  | andIzx (zp : Byte)
  /-- 0x23, RLA (zp,X) (R246, R116). -/
  | rlaIzx (zp : Byte)
  /-- 0x24, BIT zp (R168, R109). -/
  | bitZp (zp : Byte)
  /-- 0x25, AND zp (R162, R109). -/
  | andZp (zp : Byte)
  /-- 0x26, ROL zp (R192, R109). -/
  | rolZp (zp : Byte)
  /-- 0x27, RLA zp (R246, R109). -/
  | rlaZp (zp : Byte)
  /-- 0x29, AND #m (R162, R108). -/
  | andImm (m : Byte)
  /-- 0x2B, ANC #m (R249, R108). -/
  | ancImm2B (m : Byte)
  /-- 0x2C, BIT a (R168, R112). -/
  | bitAbs (a : Addr)
  /-- 0x2D, AND a (R162, R112). -/
  | andAbs (a : Addr)
  /-- 0x2E, ROL a (R192, R112). -/
  | rolAbs (a : Addr)
  /-- 0x2F, RLA a (R246, R112). -/
  | rlaAbs (a : Addr)
  /-- 0x30, BMI off (R210, R118). -/
  | bmi (off : Byte)
  /-- 0x31, AND (zp),Y (R162, R117). -/
  | andIzy (zp : Byte)
  /-- 0x33, RLA (zp),Y (R246, R117). -/
  | rlaIzy (zp : Byte)
  /-- 0x34, NOP zp,X (R257, R110). -/
  | nopZpx34 (zp : Byte)
  /-- 0x35, AND zp,X (R162, R110). -/
  | andZpx (zp : Byte)
  /-- 0x36, ROL zp,X (R192, R110). -/
  | rolZpx (zp : Byte)
  /-- 0x37, RLA zp,X (R246, R110). -/
  | rlaZpx (zp : Byte)
  /-- 0x39, AND a,Y (R162, R114). -/
  | andAby (a : Addr)
  /-- 0x3B, RLA a,Y (R246, R114). -/
  | rlaAby (a : Addr)
  /-- 0x3C, NOP a,X (R257, R113). -/
  | nopAbx3C (a : Addr)
  /-- 0x3D, AND a,X (R162, R113). -/
  | andAbx (a : Addr)
  /-- 0x3E, ROL a,X (R192, R113). -/
  | rolAbx (a : Addr)
  /-- 0x3F, RLA a,X (R246, R113). -/
  | rlaAbx (a : Addr)
  /-- 0x41, EOR (zp,X) (R164, R116). -/
  | eorIzx (zp : Byte)
  /-- 0x43, SRE (zp,X) (R247, R116). -/
  | sreIzx (zp : Byte)
  /-- 0x44, NOP zp (R257, R109). -/
  | nopZp44 (zp : Byte)
  /-- 0x45, EOR zp (R164, R109). -/
  | eorZp (zp : Byte)
  /-- 0x46, LSR zp (R191, R109). -/
  | lsrZp (zp : Byte)
  /-- 0x47, SRE zp (R247, R109). -/
  | sreZp (zp : Byte)
  /-- 0x49, EOR #m (R164, R108). -/
  | eorImm (m : Byte)
  /-- 0x4B, ALR #m (R250, R108). -/
  | alrImm (m : Byte)
  /-- 0x4C, JMP a (R200, R112). -/
  | jmpAbs (a : Addr)
  /-- 0x4D, EOR a (R164, R112). -/
  | eorAbs (a : Addr)
  /-- 0x4E, LSR a (R191, R112). -/
  | lsrAbs (a : Addr)
  /-- 0x4F, SRE a (R247, R112). -/
  | sreAbs (a : Addr)
  /-- 0x50, BVC off (R212, R118). -/
  | bvc (off : Byte)
  /-- 0x51, EOR (zp),Y (R164, R117). -/
  | eorIzy (zp : Byte)
  /-- 0x53, SRE (zp),Y (R247, R117). -/
  | sreIzy (zp : Byte)
  /-- 0x54, NOP zp,X (R257, R110). -/
  | nopZpx54 (zp : Byte)
  /-- 0x55, EOR zp,X (R164, R110). -/
  | eorZpx (zp : Byte)
  /-- 0x56, LSR zp,X (R191, R110). -/
  | lsrZpx (zp : Byte)
  /-- 0x57, SRE zp,X (R247, R110). -/
  | sreZpx (zp : Byte)
  /-- 0x59, EOR a,Y (R164, R114). -/
  | eorAby (a : Addr)
  /-- 0x5B, SRE a,Y (R247, R114). -/
  | sreAby (a : Addr)
  /-- 0x5C, NOP a,X (R257, R113). -/
  | nopAbx5C (a : Addr)
  /-- 0x5D, EOR a,X (R164, R113). -/
  | eorAbx (a : Addr)
  /-- 0x5E, LSR a,X (R191, R113). -/
  | lsrAbx (a : Addr)
  /-- 0x5F, SRE a,X (R247, R113). -/
  | sreAbx (a : Addr)
  /-- 0x61, ADC (zp,X) (R160, R116). -/
  | adcIzx (zp : Byte)
  /-- 0x63, RRA (zp,X) (R248, R116). -/
  | rraIzx (zp : Byte)
  /-- 0x64, NOP zp (R257, R109). -/
  | nopZp64 (zp : Byte)
  /-- 0x65, ADC zp (R160, R109). -/
  | adcZp (zp : Byte)
  /-- 0x66, ROR zp (R193, R109). -/
  | rorZp (zp : Byte)
  /-- 0x67, RRA zp (R248, R109). -/
  | rraZp (zp : Byte)
  /-- 0x69, ADC #m (R160, R108). -/
  | adcImm (m : Byte)
  /-- 0x6B, ARR #m (R251, R108). -/
  | arrImm (m : Byte)
  /-- 0x6C, JMP (ptr) (R200, R115). -/
  | jmpInd (ptr : Addr)
  /-- 0x6D, ADC a (R160, R112). -/
  | adcAbs (a : Addr)
  /-- 0x6E, ROR a (R193, R112). -/
  | rorAbs (a : Addr)
  /-- 0x6F, RRA a (R248, R112). -/
  | rraAbs (a : Addr)
  /-- 0x70, BVS off (R213, R118). -/
  | bvs (off : Byte)
  /-- 0x71, ADC (zp),Y (R160, R117). -/
  | adcIzy (zp : Byte)
  /-- 0x73, RRA (zp),Y (R248, R117). -/
  | rraIzy (zp : Byte)
  /-- 0x74, NOP zp,X (R257, R110). -/
  | nopZpx74 (zp : Byte)
  /-- 0x75, ADC zp,X (R160, R110). -/
  | adcZpx (zp : Byte)
  /-- 0x76, ROR zp,X (R193, R110). -/
  | rorZpx (zp : Byte)
  /-- 0x77, RRA zp,X (R248, R110). -/
  | rraZpx (zp : Byte)
  /-- 0x79, ADC a,Y (R160, R114). -/
  | adcAby (a : Addr)
  /-- 0x7B, RRA a,Y (R248, R114). -/
  | rraAby (a : Addr)
  /-- 0x7C, NOP a,X (R257, R113). -/
  | nopAbx7C (a : Addr)
  /-- 0x7D, ADC a,X (R160, R113). -/
  | adcAbx (a : Addr)
  /-- 0x7E, ROR a,X (R193, R113). -/
  | rorAbx (a : Addr)
  /-- 0x7F, RRA a,X (R248, R113). -/
  | rraAbx (a : Addr)
  /-- 0x80, NOP #m (R256, R108). -/
  | nopImm80 (m : Byte)
  /-- 0x81, STA (zp,X) (R143, R116). -/
  | staIzx (zp : Byte)
  /-- 0x82, NOP #m (R256, R108). -/
  | nopImm82 (m : Byte)
  /-- 0x83, SAX (zp,X) (R242, R116). -/
  | saxIzx (zp : Byte)
  /-- 0x84, STY zp (R145, R109). -/
  | styZp (zp : Byte)
  /-- 0x85, STA zp (R143, R109). -/
  | staZp (zp : Byte)
  /-- 0x86, STX zp (R144, R109). -/
  | stxZp (zp : Byte)
  /-- 0x87, SAX zp (R242, R109). -/
  | saxZp (zp : Byte)
  /-- 0x89, NOP #m (R256, R108). -/
  | nopImm89 (m : Byte)
  /-- 0x8B, NOP (ANE) #m (R258, R108). -/
  | aneImm (m : Byte)
  /-- 0x8C, STY a (R145, R112). -/
  | styAbs (a : Addr)
  /-- 0x8D, STA a (R143, R112). -/
  | staAbs (a : Addr)
  /-- 0x8E, STX a (R144, R112). -/
  | stxAbs (a : Addr)
  /-- 0x8F, SAX a (R242, R112). -/
  | saxAbs (a : Addr)
  /-- 0x90, BCC off (R206, R118). -/
  | bcc (off : Byte)
  /-- 0x91, STA (zp),Y (R143, R117). -/
  | staIzy (zp : Byte)
  /-- 0x93, NOP (SHA) (zp),Y (R258, R117). -/
  | shaIzy (zp : Byte)
  /-- 0x94, STY zp,X (R145, R110). -/
  | styZpx (zp : Byte)
  /-- 0x95, STA zp,X (R143, R110). -/
  | staZpx (zp : Byte)
  /-- 0x96, STX zp,Y (R144, R111). -/
  | stxZpy (zp : Byte)
  /-- 0x97, SAX zp,Y (R242, R111). -/
  | saxZpy (zp : Byte)
  /-- 0x99, STA a,Y (R143, R114). -/
  | staAby (a : Addr)
  /-- 0x9B, NOP (TAS) a,Y (R258, R114). -/
  | tasAby (a : Addr)
  /-- 0x9C, NOP (SHY) a,X (R258, R113). -/
  | shyAbx (a : Addr)
  /-- 0x9D, STA a,X (R143, R113). -/
  | staAbx (a : Addr)
  /-- 0x9E, NOP (SHX) a,Y (R258, R114). -/
  | shxAby (a : Addr)
  /-- 0x9F, NOP (SHA) a,Y (R258, R114). -/
  | shaAby (a : Addr)
  /-- 0xA0, LDY #m (R142, R108). -/
  | ldyImm (m : Byte)
  /-- 0xA1, LDA (zp,X) (R140, R116). -/
  | ldaIzx (zp : Byte)
  /-- 0xA2, LDX #m (R141, R108). -/
  | ldxImm (m : Byte)
  /-- 0xA3, LAX (zp,X) (R241, R116). -/
  | laxIzx (zp : Byte)
  /-- 0xA4, LDY zp (R142, R109). -/
  | ldyZp (zp : Byte)
  /-- 0xA5, LDA zp (R140, R109). -/
  | ldaZp (zp : Byte)
  /-- 0xA6, LDX zp (R141, R109). -/
  | ldxZp (zp : Byte)
  /-- 0xA7, LAX zp (R241, R109). -/
  | laxZp (zp : Byte)
  /-- 0xA9, LDA #m (R140, R108). -/
  | ldaImm (m : Byte)
  /-- 0xAB, NOP (LXA) #m (R258, R108). -/
  | lxaImm (m : Byte)
  /-- 0xAC, LDY a (R142, R112). -/
  | ldyAbs (a : Addr)
  /-- 0xAD, LDA a (R140, R112). -/
  | ldaAbs (a : Addr)
  /-- 0xAE, LDX a (R141, R112). -/
  | ldxAbs (a : Addr)
  /-- 0xAF, LAX a (R241, R112). -/
  | laxAbs (a : Addr)
  /-- 0xB0, BCS off (R207, R118). -/
  | bcs (off : Byte)
  /-- 0xB1, LDA (zp),Y (R140, R117). -/
  | ldaIzy (zp : Byte)
  /-- 0xB3, LAX (zp),Y (R241, R117). -/
  | laxIzy (zp : Byte)
  /-- 0xB4, LDY zp,X (R142, R110). -/
  | ldyZpx (zp : Byte)
  /-- 0xB5, LDA zp,X (R140, R110). -/
  | ldaZpx (zp : Byte)
  /-- 0xB6, LDX zp,Y (R141, R111). -/
  | ldxZpy (zp : Byte)
  /-- 0xB7, LAX zp,Y (R241, R111). -/
  | laxZpy (zp : Byte)
  /-- 0xB9, LDA a,Y (R140, R114). -/
  | ldaAby (a : Addr)
  /-- 0xBB, LAS a,Y (R253, R114). -/
  | lasAby (a : Addr)
  /-- 0xBC, LDY a,X (R142, R113). -/
  | ldyAbx (a : Addr)
  /-- 0xBD, LDA a,X (R140, R113). -/
  | ldaAbx (a : Addr)
  /-- 0xBE, LDX a,Y (R141, R114). -/
  | ldxAby (a : Addr)
  /-- 0xBF, LAX a,Y (R241, R114). -/
  | laxAby (a : Addr)
  /-- 0xC0, CPY #m (R167, R108). -/
  | cpyImm (m : Byte)
  /-- 0xC1, CMP (zp,X) (R165, R116). -/
  | cmpIzx (zp : Byte)
  /-- 0xC2, NOP #m (R256, R108). -/
  | nopImmC2 (m : Byte)
  /-- 0xC3, DCP (zp,X) (R243, R116). -/
  | dcpIzx (zp : Byte)
  /-- 0xC4, CPY zp (R167, R109). -/
  | cpyZp (zp : Byte)
  /-- 0xC5, CMP zp (R165, R109). -/
  | cmpZp (zp : Byte)
  /-- 0xC6, DEC zp (R170, R109). -/
  | decZp (zp : Byte)
  /-- 0xC7, DCP zp (R243, R109). -/
  | dcpZp (zp : Byte)
  /-- 0xC9, CMP #m (R165, R108). -/
  | cmpImm (m : Byte)
  /-- 0xCB, AXS #m (R252, R108). -/
  | axsImm (m : Byte)
  /-- 0xCC, CPY a (R167, R112). -/
  | cpyAbs (a : Addr)
  /-- 0xCD, CMP a (R165, R112). -/
  | cmpAbs (a : Addr)
  /-- 0xCE, DEC a (R170, R112). -/
  | decAbs (a : Addr)
  /-- 0xCF, DCP a (R243, R112). -/
  | dcpAbs (a : Addr)
  /-- 0xD0, BNE off (R209, R118). -/
  | bne (off : Byte)
  /-- 0xD1, CMP (zp),Y (R165, R117). -/
  | cmpIzy (zp : Byte)
  /-- 0xD3, DCP (zp),Y (R243, R117). -/
  | dcpIzy (zp : Byte)
  /-- 0xD4, NOP zp,X (R257, R110). -/
  | nopZpxD4 (zp : Byte)
  /-- 0xD5, CMP zp,X (R165, R110). -/
  | cmpZpx (zp : Byte)
  /-- 0xD6, DEC zp,X (R170, R110). -/
  | decZpx (zp : Byte)
  /-- 0xD7, DCP zp,X (R243, R110). -/
  | dcpZpx (zp : Byte)
  /-- 0xD9, CMP a,Y (R165, R114). -/
  | cmpAby (a : Addr)
  /-- 0xDB, DCP a,Y (R243, R114). -/
  | dcpAby (a : Addr)
  /-- 0xDC, NOP a,X (R257, R113). -/
  | nopAbxDC (a : Addr)
  /-- 0xDD, CMP a,X (R165, R113). -/
  | cmpAbx (a : Addr)
  /-- 0xDE, DEC a,X (R170, R113). -/
  | decAbx (a : Addr)
  /-- 0xDF, DCP a,X (R243, R113). -/
  | dcpAbx (a : Addr)
  /-- 0xE0, CPX #m (R166, R108). -/
  | cpxImm (m : Byte)
  /-- 0xE1, SBC (zp,X) (R161, R116). -/
  | sbcIzx (zp : Byte)
  /-- 0xE2, NOP #m (R256, R108). -/
  | nopImmE2 (m : Byte)
  /-- 0xE3, ISC (zp,X) (R244, R116). -/
  | iscIzx (zp : Byte)
  /-- 0xE4, CPX zp (R166, R109). -/
  | cpxZp (zp : Byte)
  /-- 0xE5, SBC zp (R161, R109). -/
  | sbcZp (zp : Byte)
  /-- 0xE6, INC zp (R169, R109). -/
  | incZp (zp : Byte)
  /-- 0xE7, ISC zp (R244, R109). -/
  | iscZp (zp : Byte)
  /-- 0xE9, SBC #m (R161, R108). -/
  | sbcImm (m : Byte)
  /-- 0xEB, SBC #m (R254, R108). -/
  | sbcImmEB (m : Byte)
  /-- 0xEC, CPX a (R166, R112). -/
  | cpxAbs (a : Addr)
  /-- 0xED, SBC a (R161, R112). -/
  | sbcAbs (a : Addr)
  /-- 0xEE, INC a (R169, R112). -/
  | incAbs (a : Addr)
  /-- 0xEF, ISC a (R244, R112). -/
  | iscAbs (a : Addr)
  /-- 0xF0, BEQ off (R208, R118). -/
  | beq (off : Byte)
  /-- 0xF1, SBC (zp),Y (R161, R117). -/
  | sbcIzy (zp : Byte)
  /-- 0xF3, ISC (zp),Y (R244, R117). -/
  | iscIzy (zp : Byte)
  /-- 0xF4, NOP zp,X (R257, R110). -/
  | nopZpxF4 (zp : Byte)
  /-- 0xF5, SBC zp,X (R161, R110). -/
  | sbcZpx (zp : Byte)
  /-- 0xF6, INC zp,X (R169, R110). -/
  | incZpx (zp : Byte)
  /-- 0xF7, ISC zp,X (R244, R110). -/
  | iscZpx (zp : Byte)
  /-- 0xF9, SBC a,Y (R161, R114). -/
  | sbcAby (a : Addr)
  /-- 0xFB, ISC a,Y (R244, R114). -/
  | iscAby (a : Addr)
  /-- 0xFC, NOP a,X (R257, R113). -/
  | nopAbxFC (a : Addr)
  /-- 0xFD, SBC a,X (R161, R113). -/
  | sbcAbx (a : Addr)
  /-- 0xFE, INC a,X (R169, R113). -/
  | incAbx (a : Addr)
  /-- 0xFF, ISC a,X (R244, R113). -/
  | iscAbx (a : Addr)
  /-- 0x00, BRK (R204, R106). -/
  | brk
  /-- 0x02, NOP (JAM) (R259, R106). -/
  | jam02
  /-- 0x08, PHP (R221, R106). -/
  | php
  /-- 0x0A, ASL A (R190, R107). -/
  | aslAcc
  /-- 0x12, NOP (JAM) (R259, R106). -/
  | jam12
  /-- 0x18, CLC (R224, R106). -/
  | clc
  /-- 0x1A, NOP (R255, R106). -/
  | nopImp1A
  /-- 0x22, NOP (JAM) (R259, R106). -/
  | jam22
  /-- 0x28, PLP (R223, R106). -/
  | plp
  /-- 0x2A, ROL A (R192, R107). -/
  | rolAcc
  /-- 0x32, NOP (JAM) (R259, R106). -/
  | jam32
  /-- 0x38, SEC (R225, R106). -/
  | sec
  /-- 0x3A, NOP (R255, R106). -/
  | nopImp3A
  /-- 0x40, RTI (R203, R106). -/
  | rti
  /-- 0x42, NOP (JAM) (R259, R106). -/
  | jam42
  /-- 0x48, PHA (R220, R106). -/
  | pha
  /-- 0x4A, LSR A (R191, R107). -/
  | lsrAcc
  /-- 0x52, NOP (JAM) (R259, R106). -/
  | jam52
  /-- 0x58, CLI (R226, R106). -/
  | cli
  /-- 0x5A, NOP (R255, R106). -/
  | nopImp5A
  /-- 0x60, RTS (R202, R106). -/
  | rts
  /-- 0x62, NOP (JAM) (R259, R106). -/
  | jam62
  /-- 0x68, PLA (R222, R106). -/
  | pla
  /-- 0x6A, ROR A (R193, R107). -/
  | rorAcc
  /-- 0x72, NOP (JAM) (R259, R106). -/
  | jam72
  /-- 0x78, SEI (R227, R106). -/
  | sei
  /-- 0x7A, NOP (R255, R106). -/
  | nopImp7A
  /-- 0x88, DEY (R174, R106). -/
  | dey
  /-- 0x8A, TXA (R148, R106). -/
  | txa
  /-- 0x92, NOP (JAM) (R259, R106). -/
  | jam92
  /-- 0x98, TYA (R149, R106). -/
  | tya
  /-- 0x9A, TXS (R151, R106). -/
  | txs
  /-- 0xA8, TAY (R147, R106). -/
  | tay
  /-- 0xAA, TAX (R146, R106). -/
  | tax
  /-- 0xB2, NOP (JAM) (R259, R106). -/
  | jamB2
  /-- 0xB8, CLV (R228, R106). -/
  | clv
  /-- 0xBA, TSX (R150, R106). -/
  | tsx
  /-- 0xC8, INY (R172, R106). -/
  | iny
  /-- 0xCA, DEX (R173, R106). -/
  | dex
  /-- 0xD2, NOP (JAM) (R259, R106). -/
  | jamD2
  /-- 0xD8, CLD (R229, R106). -/
  | cld
  /-- 0xDA, NOP (R255, R106). -/
  | nopImpDA
  /-- 0xE8, INX (R171, R106). -/
  | inx
  /-- 0xEA, NOP (R231, R106). -/
  | nop
  /-- 0xF2, NOP (JAM) (R259, R106). -/
  | jamF2
  /-- 0xF8, SED (R230, R106). -/
  | sed
  /-- 0xFA, NOP (R255, R106). -/
  | nopImpFA
  deriving DecidableEq, Repr

end Sys2Proof
end

