-- ==== Sys2Proof/Machine/Dispatch.lean ====
section
/-! DEFINITION. `exec`: one arm per instruction, each one direct call of its meaning. -/

namespace Sys2Proof.Machine

def exec (i : Instr) (s : State) : Host.Outcome State Fault Refusal :=
  match i with
  | .oraIzx zp => Sys2Proof.Machine.execOraIzx zp s
  | .sloIzx zp => Sys2Proof.Machine.execSloIzx zp s
  | .nopZp04 zp => Sys2Proof.Machine.execNopZp04 zp s
  | .oraZp zp => Sys2Proof.Machine.execOraZp zp s
  | .aslZp zp => Sys2Proof.Machine.execAslZp zp s
  | .sloZp zp => Sys2Proof.Machine.execSloZp zp s
  | .oraImm m => Sys2Proof.Machine.execOraImm m s
  | .ancImm0B m => Sys2Proof.Machine.execAncImm0B m s
  | .nopAbs0C a => Sys2Proof.Machine.execNopAbs0C a s
  | .oraAbs a => Sys2Proof.Machine.execOraAbs a s
  | .aslAbs a => Sys2Proof.Machine.execAslAbs a s
  | .sloAbs a => Sys2Proof.Machine.execSloAbs a s
  | .bpl off => Sys2Proof.Machine.execBpl off s
  | .oraIzy zp => Sys2Proof.Machine.execOraIzy zp s
  | .sloIzy zp => Sys2Proof.Machine.execSloIzy zp s
  | .nopZpx14 zp => Sys2Proof.Machine.execNopZpx14 zp s
  | .oraZpx zp => Sys2Proof.Machine.execOraZpx zp s
  | .aslZpx zp => Sys2Proof.Machine.execAslZpx zp s
  | .sloZpx zp => Sys2Proof.Machine.execSloZpx zp s
  | .oraAby a => Sys2Proof.Machine.execOraAby a s
  | .sloAby a => Sys2Proof.Machine.execSloAby a s
  | .nopAbx1C a => Sys2Proof.Machine.execNopAbx1C a s
  | .oraAbx a => Sys2Proof.Machine.execOraAbx a s
  | .aslAbx a => Sys2Proof.Machine.execAslAbx a s
  | .sloAbx a => Sys2Proof.Machine.execSloAbx a s
  | .jsr a => Sys2Proof.Machine.execJsr a s
  | .andIzx zp => Sys2Proof.Machine.execAndIzx zp s
  | .rlaIzx zp => Sys2Proof.Machine.execRlaIzx zp s
  | .bitZp zp => Sys2Proof.Machine.execBitZp zp s
  | .andZp zp => Sys2Proof.Machine.execAndZp zp s
  | .rolZp zp => Sys2Proof.Machine.execRolZp zp s
  | .rlaZp zp => Sys2Proof.Machine.execRlaZp zp s
  | .andImm m => Sys2Proof.Machine.execAndImm m s
  | .ancImm2B m => Sys2Proof.Machine.execAncImm2B m s
  | .bitAbs a => Sys2Proof.Machine.execBitAbs a s
  | .andAbs a => Sys2Proof.Machine.execAndAbs a s
  | .rolAbs a => Sys2Proof.Machine.execRolAbs a s
  | .rlaAbs a => Sys2Proof.Machine.execRlaAbs a s
  | .bmi off => Sys2Proof.Machine.execBmi off s
  | .andIzy zp => Sys2Proof.Machine.execAndIzy zp s
  | .rlaIzy zp => Sys2Proof.Machine.execRlaIzy zp s
  | .nopZpx34 zp => Sys2Proof.Machine.execNopZpx34 zp s
  | .andZpx zp => Sys2Proof.Machine.execAndZpx zp s
  | .rolZpx zp => Sys2Proof.Machine.execRolZpx zp s
  | .rlaZpx zp => Sys2Proof.Machine.execRlaZpx zp s
  | .andAby a => Sys2Proof.Machine.execAndAby a s
  | .rlaAby a => Sys2Proof.Machine.execRlaAby a s
  | .nopAbx3C a => Sys2Proof.Machine.execNopAbx3C a s
  | .andAbx a => Sys2Proof.Machine.execAndAbx a s
  | .rolAbx a => Sys2Proof.Machine.execRolAbx a s
  | .rlaAbx a => Sys2Proof.Machine.execRlaAbx a s
  | .eorIzx zp => Sys2Proof.Machine.execEorIzx zp s
  | .sreIzx zp => Sys2Proof.Machine.execSreIzx zp s
  | .nopZp44 zp => Sys2Proof.Machine.execNopZp44 zp s
  | .eorZp zp => Sys2Proof.Machine.execEorZp zp s
  | .lsrZp zp => Sys2Proof.Machine.execLsrZp zp s
  | .sreZp zp => Sys2Proof.Machine.execSreZp zp s
  | .eorImm m => Sys2Proof.Machine.execEorImm m s
  | .alrImm m => Sys2Proof.Machine.execAlrImm m s
  | .jmpAbs a => Sys2Proof.Machine.execJmpAbs a s
  | .eorAbs a => Sys2Proof.Machine.execEorAbs a s
  | .lsrAbs a => Sys2Proof.Machine.execLsrAbs a s
  | .sreAbs a => Sys2Proof.Machine.execSreAbs a s
  | .bvc off => Sys2Proof.Machine.execBvc off s
  | .eorIzy zp => Sys2Proof.Machine.execEorIzy zp s
  | .sreIzy zp => Sys2Proof.Machine.execSreIzy zp s
  | .nopZpx54 zp => Sys2Proof.Machine.execNopZpx54 zp s
  | .eorZpx zp => Sys2Proof.Machine.execEorZpx zp s
  | .lsrZpx zp => Sys2Proof.Machine.execLsrZpx zp s
  | .sreZpx zp => Sys2Proof.Machine.execSreZpx zp s
  | .eorAby a => Sys2Proof.Machine.execEorAby a s
  | .sreAby a => Sys2Proof.Machine.execSreAby a s
  | .nopAbx5C a => Sys2Proof.Machine.execNopAbx5C a s
  | .eorAbx a => Sys2Proof.Machine.execEorAbx a s
  | .lsrAbx a => Sys2Proof.Machine.execLsrAbx a s
  | .sreAbx a => Sys2Proof.Machine.execSreAbx a s
  | .adcIzx zp => Sys2Proof.Machine.execAdcIzx zp s
  | .rraIzx zp => Sys2Proof.Machine.execRraIzx zp s
  | .nopZp64 zp => Sys2Proof.Machine.execNopZp64 zp s
  | .adcZp zp => Sys2Proof.Machine.execAdcZp zp s
  | .rorZp zp => Sys2Proof.Machine.execRorZp zp s
  | .rraZp zp => Sys2Proof.Machine.execRraZp zp s
  | .adcImm m => Sys2Proof.Machine.execAdcImm m s
  | .arrImm m => Sys2Proof.Machine.execArrImm m s
  | .jmpInd ptr => Sys2Proof.Machine.execJmpInd ptr s
  | .adcAbs a => Sys2Proof.Machine.execAdcAbs a s
  | .rorAbs a => Sys2Proof.Machine.execRorAbs a s
  | .rraAbs a => Sys2Proof.Machine.execRraAbs a s
  | .bvs off => Sys2Proof.Machine.execBvs off s
  | .adcIzy zp => Sys2Proof.Machine.execAdcIzy zp s
  | .rraIzy zp => Sys2Proof.Machine.execRraIzy zp s
  | .nopZpx74 zp => Sys2Proof.Machine.execNopZpx74 zp s
  | .adcZpx zp => Sys2Proof.Machine.execAdcZpx zp s
  | .rorZpx zp => Sys2Proof.Machine.execRorZpx zp s
  | .rraZpx zp => Sys2Proof.Machine.execRraZpx zp s
  | .adcAby a => Sys2Proof.Machine.execAdcAby a s
  | .rraAby a => Sys2Proof.Machine.execRraAby a s
  | .nopAbx7C a => Sys2Proof.Machine.execNopAbx7C a s
  | .adcAbx a => Sys2Proof.Machine.execAdcAbx a s
  | .rorAbx a => Sys2Proof.Machine.execRorAbx a s
  | .rraAbx a => Sys2Proof.Machine.execRraAbx a s
  | .nopImm80 m => Sys2Proof.Machine.execNopImm80 m s
  | .staIzx zp => Sys2Proof.Machine.execStaIzx zp s
  | .nopImm82 m => Sys2Proof.Machine.execNopImm82 m s
  | .saxIzx zp => Sys2Proof.Machine.execSaxIzx zp s
  | .styZp zp => Sys2Proof.Machine.execStyZp zp s
  | .staZp zp => Sys2Proof.Machine.execStaZp zp s
  | .stxZp zp => Sys2Proof.Machine.execStxZp zp s
  | .saxZp zp => Sys2Proof.Machine.execSaxZp zp s
  | .nopImm89 m => Sys2Proof.Machine.execNopImm89 m s
  | .aneImm m => Sys2Proof.Machine.execAneImm m s
  | .styAbs a => Sys2Proof.Machine.execStyAbs a s
  | .staAbs a => Sys2Proof.Machine.execStaAbs a s
  | .stxAbs a => Sys2Proof.Machine.execStxAbs a s
  | .saxAbs a => Sys2Proof.Machine.execSaxAbs a s
  | .bcc off => Sys2Proof.Machine.execBcc off s
  | .staIzy zp => Sys2Proof.Machine.execStaIzy zp s
  | .shaIzy zp => Sys2Proof.Machine.execShaIzy zp s
  | .styZpx zp => Sys2Proof.Machine.execStyZpx zp s
  | .staZpx zp => Sys2Proof.Machine.execStaZpx zp s
  | .stxZpy zp => Sys2Proof.Machine.execStxZpy zp s
  | .saxZpy zp => Sys2Proof.Machine.execSaxZpy zp s
  | .staAby a => Sys2Proof.Machine.execStaAby a s
  | .tasAby a => Sys2Proof.Machine.execTasAby a s
  | .shyAbx a => Sys2Proof.Machine.execShyAbx a s
  | .staAbx a => Sys2Proof.Machine.execStaAbx a s
  | .shxAby a => Sys2Proof.Machine.execShxAby a s
  | .shaAby a => Sys2Proof.Machine.execShaAby a s
  | .ldyImm m => Sys2Proof.Machine.execLdyImm m s
  | .ldaIzx zp => Sys2Proof.Machine.execLdaIzx zp s
  | .ldxImm m => Sys2Proof.Machine.execLdxImm m s
  | .laxIzx zp => Sys2Proof.Machine.execLaxIzx zp s
  | .ldyZp zp => Sys2Proof.Machine.execLdyZp zp s
  | .ldaZp zp => Sys2Proof.Machine.execLdaZp zp s
  | .ldxZp zp => Sys2Proof.Machine.execLdxZp zp s
  | .laxZp zp => Sys2Proof.Machine.execLaxZp zp s
  | .ldaImm m => Sys2Proof.Machine.execLdaImm m s
  | .lxaImm m => Sys2Proof.Machine.execLxaImm m s
  | .ldyAbs a => Sys2Proof.Machine.execLdyAbs a s
  | .ldaAbs a => Sys2Proof.Machine.execLdaAbs a s
  | .ldxAbs a => Sys2Proof.Machine.execLdxAbs a s
  | .laxAbs a => Sys2Proof.Machine.execLaxAbs a s
  | .bcs off => Sys2Proof.Machine.execBcs off s
  | .ldaIzy zp => Sys2Proof.Machine.execLdaIzy zp s
  | .laxIzy zp => Sys2Proof.Machine.execLaxIzy zp s
  | .ldyZpx zp => Sys2Proof.Machine.execLdyZpx zp s
  | .ldaZpx zp => Sys2Proof.Machine.execLdaZpx zp s
  | .ldxZpy zp => Sys2Proof.Machine.execLdxZpy zp s
  | .laxZpy zp => Sys2Proof.Machine.execLaxZpy zp s
  | .ldaAby a => Sys2Proof.Machine.execLdaAby a s
  | .lasAby a => Sys2Proof.Machine.execLasAby a s
  | .ldyAbx a => Sys2Proof.Machine.execLdyAbx a s
  | .ldaAbx a => Sys2Proof.Machine.execLdaAbx a s
  | .ldxAby a => Sys2Proof.Machine.execLdxAby a s
  | .laxAby a => Sys2Proof.Machine.execLaxAby a s
  | .cpyImm m => Sys2Proof.Machine.execCpyImm m s
  | .cmpIzx zp => Sys2Proof.Machine.execCmpIzx zp s
  | .nopImmC2 m => Sys2Proof.Machine.execNopImmC2 m s
  | .dcpIzx zp => Sys2Proof.Machine.execDcpIzx zp s
  | .cpyZp zp => Sys2Proof.Machine.execCpyZp zp s
  | .cmpZp zp => Sys2Proof.Machine.execCmpZp zp s
  | .decZp zp => Sys2Proof.Machine.execDecZp zp s
  | .dcpZp zp => Sys2Proof.Machine.execDcpZp zp s
  | .cmpImm m => Sys2Proof.Machine.execCmpImm m s
  | .axsImm m => Sys2Proof.Machine.execAxsImm m s
  | .cpyAbs a => Sys2Proof.Machine.execCpyAbs a s
  | .cmpAbs a => Sys2Proof.Machine.execCmpAbs a s
  | .decAbs a => Sys2Proof.Machine.execDecAbs a s
  | .dcpAbs a => Sys2Proof.Machine.execDcpAbs a s
  | .bne off => Sys2Proof.Machine.execBne off s
  | .cmpIzy zp => Sys2Proof.Machine.execCmpIzy zp s
  | .dcpIzy zp => Sys2Proof.Machine.execDcpIzy zp s
  | .nopZpxD4 zp => Sys2Proof.Machine.execNopZpxD4 zp s
  | .cmpZpx zp => Sys2Proof.Machine.execCmpZpx zp s
  | .decZpx zp => Sys2Proof.Machine.execDecZpx zp s
  | .dcpZpx zp => Sys2Proof.Machine.execDcpZpx zp s
  | .cmpAby a => Sys2Proof.Machine.execCmpAby a s
  | .dcpAby a => Sys2Proof.Machine.execDcpAby a s
  | .nopAbxDC a => Sys2Proof.Machine.execNopAbxDC a s
  | .cmpAbx a => Sys2Proof.Machine.execCmpAbx a s
  | .decAbx a => Sys2Proof.Machine.execDecAbx a s
  | .dcpAbx a => Sys2Proof.Machine.execDcpAbx a s
  | .cpxImm m => Sys2Proof.Machine.execCpxImm m s
  | .sbcIzx zp => Sys2Proof.Machine.execSbcIzx zp s
  | .nopImmE2 m => Sys2Proof.Machine.execNopImmE2 m s
  | .iscIzx zp => Sys2Proof.Machine.execIscIzx zp s
  | .cpxZp zp => Sys2Proof.Machine.execCpxZp zp s
  | .sbcZp zp => Sys2Proof.Machine.execSbcZp zp s
  | .incZp zp => Sys2Proof.Machine.execIncZp zp s
  | .iscZp zp => Sys2Proof.Machine.execIscZp zp s
  | .sbcImm m => Sys2Proof.Machine.execSbcImm m s
  | .sbcImmEB m => Sys2Proof.Machine.execSbcImmEB m s
  | .cpxAbs a => Sys2Proof.Machine.execCpxAbs a s
  | .sbcAbs a => Sys2Proof.Machine.execSbcAbs a s
  | .incAbs a => Sys2Proof.Machine.execIncAbs a s
  | .iscAbs a => Sys2Proof.Machine.execIscAbs a s
  | .beq off => Sys2Proof.Machine.execBeq off s
  | .sbcIzy zp => Sys2Proof.Machine.execSbcIzy zp s
  | .iscIzy zp => Sys2Proof.Machine.execIscIzy zp s
  | .nopZpxF4 zp => Sys2Proof.Machine.execNopZpxF4 zp s
  | .sbcZpx zp => Sys2Proof.Machine.execSbcZpx zp s
  | .incZpx zp => Sys2Proof.Machine.execIncZpx zp s
  | .iscZpx zp => Sys2Proof.Machine.execIscZpx zp s
  | .sbcAby a => Sys2Proof.Machine.execSbcAby a s
  | .iscAby a => Sys2Proof.Machine.execIscAby a s
  | .nopAbxFC a => Sys2Proof.Machine.execNopAbxFC a s
  | .sbcAbx a => Sys2Proof.Machine.execSbcAbx a s
  | .incAbx a => Sys2Proof.Machine.execIncAbx a s
  | .iscAbx a => Sys2Proof.Machine.execIscAbx a s
  | .brk => Sys2Proof.Machine.execBrk s
  | .jam02 => Sys2Proof.Machine.execJam02 s
  | .php => Sys2Proof.Machine.execPhp s
  | .aslAcc => Sys2Proof.Machine.execAslAcc s
  | .jam12 => Sys2Proof.Machine.execJam12 s
  | .clc => Sys2Proof.Machine.execClc s
  | .nopImp1A => Sys2Proof.Machine.execNopImp1A s
  | .jam22 => Sys2Proof.Machine.execJam22 s
  | .plp => Sys2Proof.Machine.execPlp s
  | .rolAcc => Sys2Proof.Machine.execRolAcc s
  | .jam32 => Sys2Proof.Machine.execJam32 s
  | .sec => Sys2Proof.Machine.execSec s
  | .nopImp3A => Sys2Proof.Machine.execNopImp3A s
  | .rti => Sys2Proof.Machine.execRti s
  | .jam42 => Sys2Proof.Machine.execJam42 s
  | .pha => Sys2Proof.Machine.execPha s
  | .lsrAcc => Sys2Proof.Machine.execLsrAcc s
  | .jam52 => Sys2Proof.Machine.execJam52 s
  | .cli => Sys2Proof.Machine.execCli s
  | .nopImp5A => Sys2Proof.Machine.execNopImp5A s
  | .rts => Sys2Proof.Machine.execRts s
  | .jam62 => Sys2Proof.Machine.execJam62 s
  | .pla => Sys2Proof.Machine.execPla s
  | .rorAcc => Sys2Proof.Machine.execRorAcc s
  | .jam72 => Sys2Proof.Machine.execJam72 s
  | .sei => Sys2Proof.Machine.execSei s
  | .nopImp7A => Sys2Proof.Machine.execNopImp7A s
  | .dey => Sys2Proof.Machine.execDey s
  | .txa => Sys2Proof.Machine.execTxa s
  | .jam92 => Sys2Proof.Machine.execJam92 s
  | .tya => Sys2Proof.Machine.execTya s
  | .txs => Sys2Proof.Machine.execTxs s
  | .tay => Sys2Proof.Machine.execTay s
  | .tax => Sys2Proof.Machine.execTax s
  | .jamB2 => Sys2Proof.Machine.execJamB2 s
  | .clv => Sys2Proof.Machine.execClv s
  | .tsx => Sys2Proof.Machine.execTsx s
  | .iny => Sys2Proof.Machine.execIny s
  | .dex => Sys2Proof.Machine.execDex s
  | .jamD2 => Sys2Proof.Machine.execJamD2 s
  | .cld => Sys2Proof.Machine.execCld s
  | .nopImpDA => Sys2Proof.Machine.execNopImpDA s
  | .inx => Sys2Proof.Machine.execInx s
  | .nop => Sys2Proof.Machine.execNop s
  | .jamF2 => Sys2Proof.Machine.execJamF2 s
  | .sed => Sys2Proof.Machine.execSed s
  | .nopImpFA => Sys2Proof.Machine.execNopImpFA s

end Sys2Proof.Machine
end

