-- ==== Sys2Proof/WellFormed.lean ====
section
/-! DEFINITION. Well-formedness. An operand as a program writes it is a number; it is well formed when
it fits its format's operand (spec/30_encoding.md R81, R83, R92). A term of `Instr` carries operands of
exactly the encoded widths and no other field, so every term is well formed: R91 says that no encoding is
illegal. -/

namespace Sys2Proof

/-- The operand number `v` fits format `f`: none for implied and accumulator, one byte for the 8-bit
operands, two bytes for addresses and pointers (R83), -128 to 127 for a branch offset (R92). -/
def operandFits (f : Format) (v : Int) : Bool :=
  match f with
  | .imp => decide (v = 0)
  | .acc => decide (v = 0)
  | .imm => decide (0 ≤ v ∧ v < 256)
  | .zp => decide (0 ≤ v ∧ v < 256)
  | .zpx => decide (0 ≤ v ∧ v < 256)
  | .zpy => decide (0 ≤ v ∧ v < 256)
  | .abs => decide (0 ≤ v ∧ v < 65536)
  | .abx => decide (0 ≤ v ∧ v < 65536)
  | .aby => decide (0 ≤ v ∧ v < 65536)
  | .ind => decide (0 ≤ v ∧ v < 65536)
  | .izx => decide (0 ≤ v ∧ v < 256)
  | .izy => decide (0 ≤ v ∧ v < 256)
  | .rel => decide (-128 ≤ v ∧ v ≤ 127)

/-- Every instruction term is well formed (R91). -/
def Instr.wellFormed (_i : Instr) : Bool := true

end Sys2Proof
end

