-- ==== Sys2Proof/Decode.lean ====
section
/-! DEFINITION. The decoder and the encoder (spec/30_encoding.md R80 to R91), written as the opcode matrix
of R86: a row for each high nibble, a column for each low nibble. Every opcode byte has an instruction
(R82, R91); what a decoder can refuse is a byte string that ends before the instruction does. -/

namespace Sys2Proof

/-- The number of bytes of a format, opcode included (R81). -/
def Format.length (f : Format) : Nat :=
  match f with
  | .imp => 1
  | .acc => 1
  | .imm => 2
  | .zp => 2
  | .zpx => 2
  | .zpy => 2
  | .abs => 3
  | .abx => 3
  | .aby => 3
  | .ind => 3
  | .izx => 2
  | .izy => 2
  | .rel => 2

/-- A little-endian address operand: byte 2 is the high byte (R83). -/
def operandAddr (b1 b2 : Byte) : Addr := b2 ++ b1

/-- The low byte of an address operand, byte 1 (R81). -/
def operandLo (a : Addr) : Byte := a.extractLsb' 0 8

/-- The high byte of an address operand, byte 2 (R81). -/
def operandHi (a : Addr) : Byte := a.extractLsb' 8 8

/-- Row 0x of the opcode matrix: the formats (R86). -/
def formatRow0 (lo : Nat) : Format :=
  match lo with
  | 0 => .imp
  | 1 => .izx
  | 2 => .imp
  | 3 => .izx
  | 4 => .zp
  | 5 => .zp
  | 6 => .zp
  | 7 => .zp
  | 8 => .imp
  | 9 => .imm
  | 10 => .acc
  | 11 => .imm
  | 12 => .abs
  | 13 => .abs
  | 14 => .abs
  | _ => .abs

/-- Row 1x of the opcode matrix: the formats (R86). -/
def formatRow1 (lo : Nat) : Format :=
  match lo with
  | 0 => .rel
  | 1 => .izy
  | 2 => .imp
  | 3 => .izy
  | 4 => .zpx
  | 5 => .zpx
  | 6 => .zpx
  | 7 => .zpx
  | 8 => .imp
  | 9 => .aby
  | 10 => .imp
  | 11 => .aby
  | 12 => .abx
  | 13 => .abx
  | 14 => .abx
  | _ => .abx

/-- Row 2x of the opcode matrix: the formats (R86). -/
def formatRow2 (lo : Nat) : Format :=
  match lo with
  | 0 => .abs
  | 1 => .izx
  | 2 => .imp
  | 3 => .izx
  | 4 => .zp
  | 5 => .zp
  | 6 => .zp
  | 7 => .zp
  | 8 => .imp
  | 9 => .imm
  | 10 => .acc
  | 11 => .imm
  | 12 => .abs
  | 13 => .abs
  | 14 => .abs
  | _ => .abs

/-- Row 3x of the opcode matrix: the formats (R86). -/
def formatRow3 (lo : Nat) : Format :=
  match lo with
  | 0 => .rel
  | 1 => .izy
  | 2 => .imp
  | 3 => .izy
  | 4 => .zpx
  | 5 => .zpx
  | 6 => .zpx
  | 7 => .zpx
  | 8 => .imp
  | 9 => .aby
  | 10 => .imp
  | 11 => .aby
  | 12 => .abx
  | 13 => .abx
  | 14 => .abx
  | _ => .abx

/-- Row 4x of the opcode matrix: the formats (R86). -/
def formatRow4 (lo : Nat) : Format :=
  match lo with
  | 0 => .imp
  | 1 => .izx
  | 2 => .imp
  | 3 => .izx
  | 4 => .zp
  | 5 => .zp
  | 6 => .zp
  | 7 => .zp
  | 8 => .imp
  | 9 => .imm
  | 10 => .acc
  | 11 => .imm
  | 12 => .abs
  | 13 => .abs
  | 14 => .abs
  | _ => .abs

/-- Row 5x of the opcode matrix: the formats (R86). -/
def formatRow5 (lo : Nat) : Format :=
  match lo with
  | 0 => .rel
  | 1 => .izy
  | 2 => .imp
  | 3 => .izy
  | 4 => .zpx
  | 5 => .zpx
  | 6 => .zpx
  | 7 => .zpx
  | 8 => .imp
  | 9 => .aby
  | 10 => .imp
  | 11 => .aby
  | 12 => .abx
  | 13 => .abx
  | 14 => .abx
  | _ => .abx

/-- Row 6x of the opcode matrix: the formats (R86). -/
def formatRow6 (lo : Nat) : Format :=
  match lo with
  | 0 => .imp
  | 1 => .izx
  | 2 => .imp
  | 3 => .izx
  | 4 => .zp
  | 5 => .zp
  | 6 => .zp
  | 7 => .zp
  | 8 => .imp
  | 9 => .imm
  | 10 => .acc
  | 11 => .imm
  | 12 => .ind
  | 13 => .abs
  | 14 => .abs
  | _ => .abs

/-- Row 7x of the opcode matrix: the formats (R86). -/
def formatRow7 (lo : Nat) : Format :=
  match lo with
  | 0 => .rel
  | 1 => .izy
  | 2 => .imp
  | 3 => .izy
  | 4 => .zpx
  | 5 => .zpx
  | 6 => .zpx
  | 7 => .zpx
  | 8 => .imp
  | 9 => .aby
  | 10 => .imp
  | 11 => .aby
  | 12 => .abx
  | 13 => .abx
  | 14 => .abx
  | _ => .abx

/-- Row 8x of the opcode matrix: the formats (R86). -/
def formatRow8 (lo : Nat) : Format :=
  match lo with
  | 0 => .imm
  | 1 => .izx
  | 2 => .imm
  | 3 => .izx
  | 4 => .zp
  | 5 => .zp
  | 6 => .zp
  | 7 => .zp
  | 8 => .imp
  | 9 => .imm
  | 10 => .imp
  | 11 => .imm
  | 12 => .abs
  | 13 => .abs
  | 14 => .abs
  | _ => .abs

/-- Row 9x of the opcode matrix: the formats (R86). -/
def formatRow9 (lo : Nat) : Format :=
  match lo with
  | 0 => .rel
  | 1 => .izy
  | 2 => .imp
  | 3 => .izy
  | 4 => .zpx
  | 5 => .zpx
  | 6 => .zpy
  | 7 => .zpy
  | 8 => .imp
  | 9 => .aby
  | 10 => .imp
  | 11 => .aby
  | 12 => .abx
  | 13 => .abx
  | 14 => .aby
  | _ => .aby

/-- Row Ax of the opcode matrix: the formats (R86). -/
def formatRowA (lo : Nat) : Format :=
  match lo with
  | 0 => .imm
  | 1 => .izx
  | 2 => .imm
  | 3 => .izx
  | 4 => .zp
  | 5 => .zp
  | 6 => .zp
  | 7 => .zp
  | 8 => .imp
  | 9 => .imm
  | 10 => .imp
  | 11 => .imm
  | 12 => .abs
  | 13 => .abs
  | 14 => .abs
  | _ => .abs

/-- Row Bx of the opcode matrix: the formats (R86). -/
def formatRowB (lo : Nat) : Format :=
  match lo with
  | 0 => .rel
  | 1 => .izy
  | 2 => .imp
  | 3 => .izy
  | 4 => .zpx
  | 5 => .zpx
  | 6 => .zpy
  | 7 => .zpy
  | 8 => .imp
  | 9 => .aby
  | 10 => .imp
  | 11 => .aby
  | 12 => .abx
  | 13 => .abx
  | 14 => .aby
  | _ => .aby

/-- Row Cx of the opcode matrix: the formats (R86). -/
def formatRowC (lo : Nat) : Format :=
  match lo with
  | 0 => .imm
  | 1 => .izx
  | 2 => .imm
  | 3 => .izx
  | 4 => .zp
  | 5 => .zp
  | 6 => .zp
  | 7 => .zp
  | 8 => .imp
  | 9 => .imm
  | 10 => .imp
  | 11 => .imm
  | 12 => .abs
  | 13 => .abs
  | 14 => .abs
  | _ => .abs

/-- Row Dx of the opcode matrix: the formats (R86). -/
def formatRowD (lo : Nat) : Format :=
  match lo with
  | 0 => .rel
  | 1 => .izy
  | 2 => .imp
  | 3 => .izy
  | 4 => .zpx
  | 5 => .zpx
  | 6 => .zpx
  | 7 => .zpx
  | 8 => .imp
  | 9 => .aby
  | 10 => .imp
  | 11 => .aby
  | 12 => .abx
  | 13 => .abx
  | 14 => .abx
  | _ => .abx

/-- Row Ex of the opcode matrix: the formats (R86). -/
def formatRowE (lo : Nat) : Format :=
  match lo with
  | 0 => .imm
  | 1 => .izx
  | 2 => .imm
  | 3 => .izx
  | 4 => .zp
  | 5 => .zp
  | 6 => .zp
  | 7 => .zp
  | 8 => .imp
  | 9 => .imm
  | 10 => .imp
  | 11 => .imm
  | 12 => .abs
  | 13 => .abs
  | 14 => .abs
  | _ => .abs

/-- Row Fx of the opcode matrix: the formats (R86). -/
def formatRowF (lo : Nat) : Format :=
  match lo with
  | 0 => .rel
  | 1 => .izy
  | 2 => .imp
  | 3 => .izy
  | 4 => .zpx
  | 5 => .zpx
  | 6 => .zpx
  | 7 => .zpx
  | 8 => .imp
  | 9 => .aby
  | 10 => .imp
  | 11 => .aby
  | 12 => .abx
  | 13 => .abx
  | 14 => .abx
  | _ => .abx

/-- The format an opcode byte selects (R80, R103). -/
def opFormat (op : Byte) : Format :=
  match op.toNat / 16 with
  | 0 => formatRow0 (op.toNat % 16)
  | 1 => formatRow1 (op.toNat % 16)
  | 2 => formatRow2 (op.toNat % 16)
  | 3 => formatRow3 (op.toNat % 16)
  | 4 => formatRow4 (op.toNat % 16)
  | 5 => formatRow5 (op.toNat % 16)
  | 6 => formatRow6 (op.toNat % 16)
  | 7 => formatRow7 (op.toNat % 16)
  | 8 => formatRow8 (op.toNat % 16)
  | 9 => formatRow9 (op.toNat % 16)
  | 10 => formatRowA (op.toNat % 16)
  | 11 => formatRowB (op.toNat % 16)
  | 12 => formatRowC (op.toNat % 16)
  | 13 => formatRowD (op.toNat % 16)
  | 14 => formatRowE (op.toNat % 16)
  | _ => formatRowF (op.toNat % 16)

/-- The length of the instruction an opcode byte starts (R80). -/
def opLength (op : Byte) : Nat := (opFormat op).length

/-- Row 0x of the opcode matrix: the instructions (R86). -/
def decodeRow0 (lo : Nat) (b1 b2 : Byte) : Instr :=
  match lo with
  | 0 => .brk
  | 1 => .oraIzx b1
  | 2 => .jam02
  | 3 => .sloIzx b1
  | 4 => .nopZp04 b1
  | 5 => .oraZp b1
  | 6 => .aslZp b1
  | 7 => .sloZp b1
  | 8 => .php
  | 9 => .oraImm b1
  | 10 => .aslAcc
  | 11 => .ancImm0B b1
  | 12 => .nopAbs0C (operandAddr b1 b2)
  | 13 => .oraAbs (operandAddr b1 b2)
  | 14 => .aslAbs (operandAddr b1 b2)
  | _ => .sloAbs (operandAddr b1 b2)

/-- Row 1x of the opcode matrix: the instructions (R86). -/
def decodeRow1 (lo : Nat) (b1 b2 : Byte) : Instr :=
  match lo with
  | 0 => .bpl b1
  | 1 => .oraIzy b1
  | 2 => .jam12
  | 3 => .sloIzy b1
  | 4 => .nopZpx14 b1
  | 5 => .oraZpx b1
  | 6 => .aslZpx b1
  | 7 => .sloZpx b1
  | 8 => .clc
  | 9 => .oraAby (operandAddr b1 b2)
  | 10 => .nopImp1A
  | 11 => .sloAby (operandAddr b1 b2)
  | 12 => .nopAbx1C (operandAddr b1 b2)
  | 13 => .oraAbx (operandAddr b1 b2)
  | 14 => .aslAbx (operandAddr b1 b2)
  | _ => .sloAbx (operandAddr b1 b2)

/-- Row 2x of the opcode matrix: the instructions (R86). -/
def decodeRow2 (lo : Nat) (b1 b2 : Byte) : Instr :=
  match lo with
  | 0 => .jsr (operandAddr b1 b2)
  | 1 => .andIzx b1
  | 2 => .jam22
  | 3 => .rlaIzx b1
  | 4 => .bitZp b1
  | 5 => .andZp b1
  | 6 => .rolZp b1
  | 7 => .rlaZp b1
  | 8 => .plp
  | 9 => .andImm b1
  | 10 => .rolAcc
  | 11 => .ancImm2B b1
  | 12 => .bitAbs (operandAddr b1 b2)
  | 13 => .andAbs (operandAddr b1 b2)
  | 14 => .rolAbs (operandAddr b1 b2)
  | _ => .rlaAbs (operandAddr b1 b2)

/-- Row 3x of the opcode matrix: the instructions (R86). -/
def decodeRow3 (lo : Nat) (b1 b2 : Byte) : Instr :=
  match lo with
  | 0 => .bmi b1
  | 1 => .andIzy b1
  | 2 => .jam32
  | 3 => .rlaIzy b1
  | 4 => .nopZpx34 b1
  | 5 => .andZpx b1
  | 6 => .rolZpx b1
  | 7 => .rlaZpx b1
  | 8 => .sec
  | 9 => .andAby (operandAddr b1 b2)
  | 10 => .nopImp3A
  | 11 => .rlaAby (operandAddr b1 b2)
  | 12 => .nopAbx3C (operandAddr b1 b2)
  | 13 => .andAbx (operandAddr b1 b2)
  | 14 => .rolAbx (operandAddr b1 b2)
  | _ => .rlaAbx (operandAddr b1 b2)

/-- Row 4x of the opcode matrix: the instructions (R86). -/
def decodeRow4 (lo : Nat) (b1 b2 : Byte) : Instr :=
  match lo with
  | 0 => .rti
  | 1 => .eorIzx b1
  | 2 => .jam42
  | 3 => .sreIzx b1
  | 4 => .nopZp44 b1
  | 5 => .eorZp b1
  | 6 => .lsrZp b1
  | 7 => .sreZp b1
  | 8 => .pha
  | 9 => .eorImm b1
  | 10 => .lsrAcc
  | 11 => .alrImm b1
  | 12 => .jmpAbs (operandAddr b1 b2)
  | 13 => .eorAbs (operandAddr b1 b2)
  | 14 => .lsrAbs (operandAddr b1 b2)
  | _ => .sreAbs (operandAddr b1 b2)

/-- Row 5x of the opcode matrix: the instructions (R86). -/
def decodeRow5 (lo : Nat) (b1 b2 : Byte) : Instr :=
  match lo with
  | 0 => .bvc b1
  | 1 => .eorIzy b1
  | 2 => .jam52
  | 3 => .sreIzy b1
  | 4 => .nopZpx54 b1
  | 5 => .eorZpx b1
  | 6 => .lsrZpx b1
  | 7 => .sreZpx b1
  | 8 => .cli
  | 9 => .eorAby (operandAddr b1 b2)
  | 10 => .nopImp5A
  | 11 => .sreAby (operandAddr b1 b2)
  | 12 => .nopAbx5C (operandAddr b1 b2)
  | 13 => .eorAbx (operandAddr b1 b2)
  | 14 => .lsrAbx (operandAddr b1 b2)
  | _ => .sreAbx (operandAddr b1 b2)

/-- Row 6x of the opcode matrix: the instructions (R86). -/
def decodeRow6 (lo : Nat) (b1 b2 : Byte) : Instr :=
  match lo with
  | 0 => .rts
  | 1 => .adcIzx b1
  | 2 => .jam62
  | 3 => .rraIzx b1
  | 4 => .nopZp64 b1
  | 5 => .adcZp b1
  | 6 => .rorZp b1
  | 7 => .rraZp b1
  | 8 => .pla
  | 9 => .adcImm b1
  | 10 => .rorAcc
  | 11 => .arrImm b1
  | 12 => .jmpInd (operandAddr b1 b2)
  | 13 => .adcAbs (operandAddr b1 b2)
  | 14 => .rorAbs (operandAddr b1 b2)
  | _ => .rraAbs (operandAddr b1 b2)

/-- Row 7x of the opcode matrix: the instructions (R86). -/
def decodeRow7 (lo : Nat) (b1 b2 : Byte) : Instr :=
  match lo with
  | 0 => .bvs b1
  | 1 => .adcIzy b1
  | 2 => .jam72
  | 3 => .rraIzy b1
  | 4 => .nopZpx74 b1
  | 5 => .adcZpx b1
  | 6 => .rorZpx b1
  | 7 => .rraZpx b1
  | 8 => .sei
  | 9 => .adcAby (operandAddr b1 b2)
  | 10 => .nopImp7A
  | 11 => .rraAby (operandAddr b1 b2)
  | 12 => .nopAbx7C (operandAddr b1 b2)
  | 13 => .adcAbx (operandAddr b1 b2)
  | 14 => .rorAbx (operandAddr b1 b2)
  | _ => .rraAbx (operandAddr b1 b2)

/-- Row 8x of the opcode matrix: the instructions (R86). -/
def decodeRow8 (lo : Nat) (b1 b2 : Byte) : Instr :=
  match lo with
  | 0 => .nopImm80 b1
  | 1 => .staIzx b1
  | 2 => .nopImm82 b1
  | 3 => .saxIzx b1
  | 4 => .styZp b1
  | 5 => .staZp b1
  | 6 => .stxZp b1
  | 7 => .saxZp b1
  | 8 => .dey
  | 9 => .nopImm89 b1
  | 10 => .txa
  | 11 => .aneImm b1
  | 12 => .styAbs (operandAddr b1 b2)
  | 13 => .staAbs (operandAddr b1 b2)
  | 14 => .stxAbs (operandAddr b1 b2)
  | _ => .saxAbs (operandAddr b1 b2)

/-- Row 9x of the opcode matrix: the instructions (R86). -/
def decodeRow9 (lo : Nat) (b1 b2 : Byte) : Instr :=
  match lo with
  | 0 => .bcc b1
  | 1 => .staIzy b1
  | 2 => .jam92
  | 3 => .shaIzy b1
  | 4 => .styZpx b1
  | 5 => .staZpx b1
  | 6 => .stxZpy b1
  | 7 => .saxZpy b1
  | 8 => .tya
  | 9 => .staAby (operandAddr b1 b2)
  | 10 => .txs
  | 11 => .tasAby (operandAddr b1 b2)
  | 12 => .shyAbx (operandAddr b1 b2)
  | 13 => .staAbx (operandAddr b1 b2)
  | 14 => .shxAby (operandAddr b1 b2)
  | _ => .shaAby (operandAddr b1 b2)

/-- Row Ax of the opcode matrix: the instructions (R86). -/
def decodeRowA (lo : Nat) (b1 b2 : Byte) : Instr :=
  match lo with
  | 0 => .ldyImm b1
  | 1 => .ldaIzx b1
  | 2 => .ldxImm b1
  | 3 => .laxIzx b1
  | 4 => .ldyZp b1
  | 5 => .ldaZp b1
  | 6 => .ldxZp b1
  | 7 => .laxZp b1
  | 8 => .tay
  | 9 => .ldaImm b1
  | 10 => .tax
  | 11 => .lxaImm b1
  | 12 => .ldyAbs (operandAddr b1 b2)
  | 13 => .ldaAbs (operandAddr b1 b2)
  | 14 => .ldxAbs (operandAddr b1 b2)
  | _ => .laxAbs (operandAddr b1 b2)

/-- Row Bx of the opcode matrix: the instructions (R86). -/
def decodeRowB (lo : Nat) (b1 b2 : Byte) : Instr :=
  match lo with
  | 0 => .bcs b1
  | 1 => .ldaIzy b1
  | 2 => .jamB2
  | 3 => .laxIzy b1
  | 4 => .ldyZpx b1
  | 5 => .ldaZpx b1
  | 6 => .ldxZpy b1
  | 7 => .laxZpy b1
  | 8 => .clv
  | 9 => .ldaAby (operandAddr b1 b2)
  | 10 => .tsx
  | 11 => .lasAby (operandAddr b1 b2)
  | 12 => .ldyAbx (operandAddr b1 b2)
  | 13 => .ldaAbx (operandAddr b1 b2)
  | 14 => .ldxAby (operandAddr b1 b2)
  | _ => .laxAby (operandAddr b1 b2)

/-- Row Cx of the opcode matrix: the instructions (R86). -/
def decodeRowC (lo : Nat) (b1 b2 : Byte) : Instr :=
  match lo with
  | 0 => .cpyImm b1
  | 1 => .cmpIzx b1
  | 2 => .nopImmC2 b1
  | 3 => .dcpIzx b1
  | 4 => .cpyZp b1
  | 5 => .cmpZp b1
  | 6 => .decZp b1
  | 7 => .dcpZp b1
  | 8 => .iny
  | 9 => .cmpImm b1
  | 10 => .dex
  | 11 => .axsImm b1
  | 12 => .cpyAbs (operandAddr b1 b2)
  | 13 => .cmpAbs (operandAddr b1 b2)
  | 14 => .decAbs (operandAddr b1 b2)
  | _ => .dcpAbs (operandAddr b1 b2)

/-- Row Dx of the opcode matrix: the instructions (R86). -/
def decodeRowD (lo : Nat) (b1 b2 : Byte) : Instr :=
  match lo with
  | 0 => .bne b1
  | 1 => .cmpIzy b1
  | 2 => .jamD2
  | 3 => .dcpIzy b1
  | 4 => .nopZpxD4 b1
  | 5 => .cmpZpx b1
  | 6 => .decZpx b1
  | 7 => .dcpZpx b1
  | 8 => .cld
  | 9 => .cmpAby (operandAddr b1 b2)
  | 10 => .nopImpDA
  | 11 => .dcpAby (operandAddr b1 b2)
  | 12 => .nopAbxDC (operandAddr b1 b2)
  | 13 => .cmpAbx (operandAddr b1 b2)
  | 14 => .decAbx (operandAddr b1 b2)
  | _ => .dcpAbx (operandAddr b1 b2)

/-- Row Ex of the opcode matrix: the instructions (R86). -/
def decodeRowE (lo : Nat) (b1 b2 : Byte) : Instr :=
  match lo with
  | 0 => .cpxImm b1
  | 1 => .sbcIzx b1
  | 2 => .nopImmE2 b1
  | 3 => .iscIzx b1
  | 4 => .cpxZp b1
  | 5 => .sbcZp b1
  | 6 => .incZp b1
  | 7 => .iscZp b1
  | 8 => .inx
  | 9 => .sbcImm b1
  | 10 => .nop
  | 11 => .sbcImmEB b1
  | 12 => .cpxAbs (operandAddr b1 b2)
  | 13 => .sbcAbs (operandAddr b1 b2)
  | 14 => .incAbs (operandAddr b1 b2)
  | _ => .iscAbs (operandAddr b1 b2)

/-- Row Fx of the opcode matrix: the instructions (R86). -/
def decodeRowF (lo : Nat) (b1 b2 : Byte) : Instr :=
  match lo with
  | 0 => .beq b1
  | 1 => .sbcIzy b1
  | 2 => .jamF2
  | 3 => .iscIzy b1
  | 4 => .nopZpxF4 b1
  | 5 => .sbcZpx b1
  | 6 => .incZpx b1
  | 7 => .iscZpx b1
  | 8 => .sed
  | 9 => .sbcAby (operandAddr b1 b2)
  | 10 => .nopImpFA
  | 11 => .iscAby (operandAddr b1 b2)
  | 12 => .nopAbxFC (operandAddr b1 b2)
  | 13 => .sbcAbx (operandAddr b1 b2)
  | 14 => .incAbx (operandAddr b1 b2)
  | _ => .iscAbx (operandAddr b1 b2)

/-- The instruction of an opcode byte and its operand bytes; a byte beyond its length plays no part
(R82, R83, R103). -/
def decodeOp (op b1 b2 : Byte) : Instr :=
  match op.toNat / 16 with
  | 0 => decodeRow0 (op.toNat % 16) b1 b2
  | 1 => decodeRow1 (op.toNat % 16) b1 b2
  | 2 => decodeRow2 (op.toNat % 16) b1 b2
  | 3 => decodeRow3 (op.toNat % 16) b1 b2
  | 4 => decodeRow4 (op.toNat % 16) b1 b2
  | 5 => decodeRow5 (op.toNat % 16) b1 b2
  | 6 => decodeRow6 (op.toNat % 16) b1 b2
  | 7 => decodeRow7 (op.toNat % 16) b1 b2
  | 8 => decodeRow8 (op.toNat % 16) b1 b2
  | 9 => decodeRow9 (op.toNat % 16) b1 b2
  | 10 => decodeRowA (op.toNat % 16) b1 b2
  | 11 => decodeRowB (op.toNat % 16) b1 b2
  | 12 => decodeRowC (op.toNat % 16) b1 b2
  | 13 => decodeRowD (op.toNat % 16) b1 b2
  | 14 => decodeRowE (op.toNat % 16) b1 b2
  | _ => decodeRowF (op.toNat % 16) b1 b2

/-- Why a byte string is no instruction. -/
inductive DecodeError where
  /-- There is no byte. -/
  | noBytes
  /-- The opcode byte needs `need` bytes in all and the string ends before. -/
  | truncated (opcode : Byte) (need : Nat)
  deriving DecidableEq, Repr

/-- Decode the instruction at the head of a byte string; answer it with the bytes that follow it. -/
def decode (bytes : List Byte) : Except DecodeError (Instr × List Byte) :=
  match bytes with
  | [] => .error .noBytes
  | op :: rest =>
    match opLength op, rest with
    | 1, _ => .ok (decodeOp op 0 0, rest)
    | 2, b1 :: rest => .ok (decodeOp op b1 0, rest)
    | 3, b1 :: b2 :: rest => .ok (decodeOp op b1 b2, rest)
    | n, _ => .error (.truncated op n)

/-- The bytes of an instruction at ascending addresses, opcode first (R80, R81, R88 to R90). -/
def encode (i : Instr) : List Byte :=
  match i with
  | .oraIzx zp => [0x01, zp]
  | .sloIzx zp => [0x03, zp]
  | .nopZp04 zp => [0x04, zp]
  | .oraZp zp => [0x05, zp]
  | .aslZp zp => [0x06, zp]
  | .sloZp zp => [0x07, zp]
  | .oraImm m => [0x09, m]
  | .ancImm0B m => [0x0B, m]
  | .nopAbs0C a => [0x0C, operandLo a, operandHi a]
  | .oraAbs a => [0x0D, operandLo a, operandHi a]
  | .aslAbs a => [0x0E, operandLo a, operandHi a]
  | .sloAbs a => [0x0F, operandLo a, operandHi a]
  | .bpl off => [0x10, off]
  | .oraIzy zp => [0x11, zp]
  | .sloIzy zp => [0x13, zp]
  | .nopZpx14 zp => [0x14, zp]
  | .oraZpx zp => [0x15, zp]
  | .aslZpx zp => [0x16, zp]
  | .sloZpx zp => [0x17, zp]
  | .oraAby a => [0x19, operandLo a, operandHi a]
  | .sloAby a => [0x1B, operandLo a, operandHi a]
  | .nopAbx1C a => [0x1C, operandLo a, operandHi a]
  | .oraAbx a => [0x1D, operandLo a, operandHi a]
  | .aslAbx a => [0x1E, operandLo a, operandHi a]
  | .sloAbx a => [0x1F, operandLo a, operandHi a]
  | .jsr a => [0x20, operandLo a, operandHi a]
  | .andIzx zp => [0x21, zp]
  | .rlaIzx zp => [0x23, zp]
  | .bitZp zp => [0x24, zp]
  | .andZp zp => [0x25, zp]
  | .rolZp zp => [0x26, zp]
  | .rlaZp zp => [0x27, zp]
  | .andImm m => [0x29, m]
  | .ancImm2B m => [0x2B, m]
  | .bitAbs a => [0x2C, operandLo a, operandHi a]
  | .andAbs a => [0x2D, operandLo a, operandHi a]
  | .rolAbs a => [0x2E, operandLo a, operandHi a]
  | .rlaAbs a => [0x2F, operandLo a, operandHi a]
  | .bmi off => [0x30, off]
  | .andIzy zp => [0x31, zp]
  | .rlaIzy zp => [0x33, zp]
  | .nopZpx34 zp => [0x34, zp]
  | .andZpx zp => [0x35, zp]
  | .rolZpx zp => [0x36, zp]
  | .rlaZpx zp => [0x37, zp]
  | .andAby a => [0x39, operandLo a, operandHi a]
  | .rlaAby a => [0x3B, operandLo a, operandHi a]
  | .nopAbx3C a => [0x3C, operandLo a, operandHi a]
  | .andAbx a => [0x3D, operandLo a, operandHi a]
  | .rolAbx a => [0x3E, operandLo a, operandHi a]
  | .rlaAbx a => [0x3F, operandLo a, operandHi a]
  | .eorIzx zp => [0x41, zp]
  | .sreIzx zp => [0x43, zp]
  | .nopZp44 zp => [0x44, zp]
  | .eorZp zp => [0x45, zp]
  | .lsrZp zp => [0x46, zp]
  | .sreZp zp => [0x47, zp]
  | .eorImm m => [0x49, m]
  | .alrImm m => [0x4B, m]
  | .jmpAbs a => [0x4C, operandLo a, operandHi a]
  | .eorAbs a => [0x4D, operandLo a, operandHi a]
  | .lsrAbs a => [0x4E, operandLo a, operandHi a]
  | .sreAbs a => [0x4F, operandLo a, operandHi a]
  | .bvc off => [0x50, off]
  | .eorIzy zp => [0x51, zp]
  | .sreIzy zp => [0x53, zp]
  | .nopZpx54 zp => [0x54, zp]
  | .eorZpx zp => [0x55, zp]
  | .lsrZpx zp => [0x56, zp]
  | .sreZpx zp => [0x57, zp]
  | .eorAby a => [0x59, operandLo a, operandHi a]
  | .sreAby a => [0x5B, operandLo a, operandHi a]
  | .nopAbx5C a => [0x5C, operandLo a, operandHi a]
  | .eorAbx a => [0x5D, operandLo a, operandHi a]
  | .lsrAbx a => [0x5E, operandLo a, operandHi a]
  | .sreAbx a => [0x5F, operandLo a, operandHi a]
  | .adcIzx zp => [0x61, zp]
  | .rraIzx zp => [0x63, zp]
  | .nopZp64 zp => [0x64, zp]
  | .adcZp zp => [0x65, zp]
  | .rorZp zp => [0x66, zp]
  | .rraZp zp => [0x67, zp]
  | .adcImm m => [0x69, m]
  | .arrImm m => [0x6B, m]
  | .jmpInd ptr => [0x6C, operandLo ptr, operandHi ptr]
  | .adcAbs a => [0x6D, operandLo a, operandHi a]
  | .rorAbs a => [0x6E, operandLo a, operandHi a]
  | .rraAbs a => [0x6F, operandLo a, operandHi a]
  | .bvs off => [0x70, off]
  | .adcIzy zp => [0x71, zp]
  | .rraIzy zp => [0x73, zp]
  | .nopZpx74 zp => [0x74, zp]
  | .adcZpx zp => [0x75, zp]
  | .rorZpx zp => [0x76, zp]
  | .rraZpx zp => [0x77, zp]
  | .adcAby a => [0x79, operandLo a, operandHi a]
  | .rraAby a => [0x7B, operandLo a, operandHi a]
  | .nopAbx7C a => [0x7C, operandLo a, operandHi a]
  | .adcAbx a => [0x7D, operandLo a, operandHi a]
  | .rorAbx a => [0x7E, operandLo a, operandHi a]
  | .rraAbx a => [0x7F, operandLo a, operandHi a]
  | .nopImm80 m => [0x80, m]
  | .staIzx zp => [0x81, zp]
  | .nopImm82 m => [0x82, m]
  | .saxIzx zp => [0x83, zp]
  | .styZp zp => [0x84, zp]
  | .staZp zp => [0x85, zp]
  | .stxZp zp => [0x86, zp]
  | .saxZp zp => [0x87, zp]
  | .nopImm89 m => [0x89, m]
  | .aneImm m => [0x8B, m]
  | .styAbs a => [0x8C, operandLo a, operandHi a]
  | .staAbs a => [0x8D, operandLo a, operandHi a]
  | .stxAbs a => [0x8E, operandLo a, operandHi a]
  | .saxAbs a => [0x8F, operandLo a, operandHi a]
  | .bcc off => [0x90, off]
  | .staIzy zp => [0x91, zp]
  | .shaIzy zp => [0x93, zp]
  | .styZpx zp => [0x94, zp]
  | .staZpx zp => [0x95, zp]
  | .stxZpy zp => [0x96, zp]
  | .saxZpy zp => [0x97, zp]
  | .staAby a => [0x99, operandLo a, operandHi a]
  | .tasAby a => [0x9B, operandLo a, operandHi a]
  | .shyAbx a => [0x9C, operandLo a, operandHi a]
  | .staAbx a => [0x9D, operandLo a, operandHi a]
  | .shxAby a => [0x9E, operandLo a, operandHi a]
  | .shaAby a => [0x9F, operandLo a, operandHi a]
  | .ldyImm m => [0xA0, m]
  | .ldaIzx zp => [0xA1, zp]
  | .ldxImm m => [0xA2, m]
  | .laxIzx zp => [0xA3, zp]
  | .ldyZp zp => [0xA4, zp]
  | .ldaZp zp => [0xA5, zp]
  | .ldxZp zp => [0xA6, zp]
  | .laxZp zp => [0xA7, zp]
  | .ldaImm m => [0xA9, m]
  | .lxaImm m => [0xAB, m]
  | .ldyAbs a => [0xAC, operandLo a, operandHi a]
  | .ldaAbs a => [0xAD, operandLo a, operandHi a]
  | .ldxAbs a => [0xAE, operandLo a, operandHi a]
  | .laxAbs a => [0xAF, operandLo a, operandHi a]
  | .bcs off => [0xB0, off]
  | .ldaIzy zp => [0xB1, zp]
  | .laxIzy zp => [0xB3, zp]
  | .ldyZpx zp => [0xB4, zp]
  | .ldaZpx zp => [0xB5, zp]
  | .ldxZpy zp => [0xB6, zp]
  | .laxZpy zp => [0xB7, zp]
  | .ldaAby a => [0xB9, operandLo a, operandHi a]
  | .lasAby a => [0xBB, operandLo a, operandHi a]
  | .ldyAbx a => [0xBC, operandLo a, operandHi a]
  | .ldaAbx a => [0xBD, operandLo a, operandHi a]
  | .ldxAby a => [0xBE, operandLo a, operandHi a]
  | .laxAby a => [0xBF, operandLo a, operandHi a]
  | .cpyImm m => [0xC0, m]
  | .cmpIzx zp => [0xC1, zp]
  | .nopImmC2 m => [0xC2, m]
  | .dcpIzx zp => [0xC3, zp]
  | .cpyZp zp => [0xC4, zp]
  | .cmpZp zp => [0xC5, zp]
  | .decZp zp => [0xC6, zp]
  | .dcpZp zp => [0xC7, zp]
  | .cmpImm m => [0xC9, m]
  | .axsImm m => [0xCB, m]
  | .cpyAbs a => [0xCC, operandLo a, operandHi a]
  | .cmpAbs a => [0xCD, operandLo a, operandHi a]
  | .decAbs a => [0xCE, operandLo a, operandHi a]
  | .dcpAbs a => [0xCF, operandLo a, operandHi a]
  | .bne off => [0xD0, off]
  | .cmpIzy zp => [0xD1, zp]
  | .dcpIzy zp => [0xD3, zp]
  | .nopZpxD4 zp => [0xD4, zp]
  | .cmpZpx zp => [0xD5, zp]
  | .decZpx zp => [0xD6, zp]
  | .dcpZpx zp => [0xD7, zp]
  | .cmpAby a => [0xD9, operandLo a, operandHi a]
  | .dcpAby a => [0xDB, operandLo a, operandHi a]
  | .nopAbxDC a => [0xDC, operandLo a, operandHi a]
  | .cmpAbx a => [0xDD, operandLo a, operandHi a]
  | .decAbx a => [0xDE, operandLo a, operandHi a]
  | .dcpAbx a => [0xDF, operandLo a, operandHi a]
  | .cpxImm m => [0xE0, m]
  | .sbcIzx zp => [0xE1, zp]
  | .nopImmE2 m => [0xE2, m]
  | .iscIzx zp => [0xE3, zp]
  | .cpxZp zp => [0xE4, zp]
  | .sbcZp zp => [0xE5, zp]
  | .incZp zp => [0xE6, zp]
  | .iscZp zp => [0xE7, zp]
  | .sbcImm m => [0xE9, m]
  | .sbcImmEB m => [0xEB, m]
  | .cpxAbs a => [0xEC, operandLo a, operandHi a]
  | .sbcAbs a => [0xED, operandLo a, operandHi a]
  | .incAbs a => [0xEE, operandLo a, operandHi a]
  | .iscAbs a => [0xEF, operandLo a, operandHi a]
  | .beq off => [0xF0, off]
  | .sbcIzy zp => [0xF1, zp]
  | .iscIzy zp => [0xF3, zp]
  | .nopZpxF4 zp => [0xF4, zp]
  | .sbcZpx zp => [0xF5, zp]
  | .incZpx zp => [0xF6, zp]
  | .iscZpx zp => [0xF7, zp]
  | .sbcAby a => [0xF9, operandLo a, operandHi a]
  | .iscAby a => [0xFB, operandLo a, operandHi a]
  | .nopAbxFC a => [0xFC, operandLo a, operandHi a]
  | .sbcAbx a => [0xFD, operandLo a, operandHi a]
  | .incAbx a => [0xFE, operandLo a, operandHi a]
  | .iscAbx a => [0xFF, operandLo a, operandHi a]
  | .brk => [0x00]
  | .jam02 => [0x02]
  | .php => [0x08]
  | .aslAcc => [0x0A]
  | .jam12 => [0x12]
  | .clc => [0x18]
  | .nopImp1A => [0x1A]
  | .jam22 => [0x22]
  | .plp => [0x28]
  | .rolAcc => [0x2A]
  | .jam32 => [0x32]
  | .sec => [0x38]
  | .nopImp3A => [0x3A]
  | .rti => [0x40]
  | .jam42 => [0x42]
  | .pha => [0x48]
  | .lsrAcc => [0x4A]
  | .jam52 => [0x52]
  | .cli => [0x58]
  | .nopImp5A => [0x5A]
  | .rts => [0x60]
  | .jam62 => [0x62]
  | .pla => [0x68]
  | .rorAcc => [0x6A]
  | .jam72 => [0x72]
  | .sei => [0x78]
  | .nopImp7A => [0x7A]
  | .dey => [0x88]
  | .txa => [0x8A]
  | .jam92 => [0x92]
  | .tya => [0x98]
  | .txs => [0x9A]
  | .tay => [0xA8]
  | .tax => [0xAA]
  | .jamB2 => [0xB2]
  | .clv => [0xB8]
  | .tsx => [0xBA]
  | .iny => [0xC8]
  | .dex => [0xCA]
  | .jamD2 => [0xD2]
  | .cld => [0xD8]
  | .nopImpDA => [0xDA]
  | .inx => [0xE8]
  | .nop => [0xEA]
  | .jamF2 => [0xF2]
  | .sed => [0xF8]
  | .nopImpFA => [0xFA]

/-- The opcode matrix's base cycle counts, a list for each high nibble (R86, R87). -/
def cycleRows : List (List Nat) :=
  [[7, 6, 2, 8, 3, 3, 5, 5, 3, 2, 2, 2, 4, 4, 6, 6],
   [2, 5, 2, 8, 4, 4, 6, 6, 2, 4, 2, 7, 4, 4, 7, 7],
   [6, 6, 2, 8, 3, 3, 5, 5, 4, 2, 2, 2, 4, 4, 6, 6],
   [2, 5, 2, 8, 4, 4, 6, 6, 2, 4, 2, 7, 4, 4, 7, 7],
   [6, 6, 2, 8, 3, 3, 5, 5, 3, 2, 2, 2, 3, 4, 6, 6],
   [2, 5, 2, 8, 4, 4, 6, 6, 2, 4, 2, 7, 4, 4, 7, 7],
   [6, 6, 2, 8, 3, 3, 5, 5, 4, 2, 2, 2, 5, 4, 6, 6],
   [2, 5, 2, 8, 4, 4, 6, 6, 2, 4, 2, 7, 4, 4, 7, 7],
   [2, 6, 2, 6, 3, 3, 3, 3, 2, 2, 2, 2, 4, 4, 4, 4],
   [2, 6, 2, 6, 4, 4, 4, 4, 2, 5, 2, 5, 5, 5, 5, 5],
   [2, 6, 2, 6, 3, 3, 3, 3, 2, 2, 2, 2, 4, 4, 4, 4],
   [2, 5, 2, 5, 4, 4, 4, 4, 2, 4, 2, 4, 4, 4, 4, 4],
   [2, 6, 2, 8, 3, 3, 5, 5, 2, 2, 2, 2, 4, 4, 6, 6],
   [2, 5, 2, 8, 4, 4, 6, 6, 2, 4, 2, 7, 4, 4, 7, 7],
   [2, 6, 2, 8, 3, 3, 5, 5, 2, 2, 2, 2, 4, 4, 6, 6],
   [2, 5, 2, 8, 4, 4, 6, 6, 2, 4, 2, 7, 4, 4, 7, 7]]

/-- The base cycle count of an opcode byte (R85). -/
def opCycles (op : Byte) : Nat := (cycleRows.getD (op.toNat / 16) []).getD (op.toNat % 16) 0

/-- The opcode bytes whose cell has a +: one more cycle on a page cross (R86, R119). -/
def penaltyOps : List Nat :=
  [0x11, 0x19, 0x1C, 0x1D, 0x31, 0x39, 0x3C, 0x3D, 0x51, 0x59, 0x5C, 0x5D,
   0x71, 0x79, 0x7C, 0x7D, 0xB1, 0xB3, 0xB9, 0xBB, 0xBC, 0xBD, 0xBE, 0xBF,
   0xD1, 0xD9, 0xDC, 0xDD, 0xF1, 0xF9, 0xFC, 0xFD]

/-- `page_cross_penalty` of an opcode byte (R85). -/
def opPenalty (op : Byte) : Bool := penaltyOps.contains op.toNat

/-- The opcode matrix's mnemonics, a list for each high nibble (R86). -/
def mnemonicRows : List (List String) :=
  [["BRK", "ORA", "NOP", "SLO", "NOP", "ORA", "ASL", "SLO", "PHP", "ORA", "ASL", "ANC", "NOP", "ORA", "ASL", "SLO"],
   ["BPL", "ORA", "NOP", "SLO", "NOP", "ORA", "ASL", "SLO", "CLC", "ORA", "NOP", "SLO", "NOP", "ORA", "ASL", "SLO"],
   ["JSR", "AND", "NOP", "RLA", "BIT", "AND", "ROL", "RLA", "PLP", "AND", "ROL", "ANC", "BIT", "AND", "ROL", "RLA"],
   ["BMI", "AND", "NOP", "RLA", "NOP", "AND", "ROL", "RLA", "SEC", "AND", "NOP", "RLA", "NOP", "AND", "ROL", "RLA"],
   ["RTI", "EOR", "NOP", "SRE", "NOP", "EOR", "LSR", "SRE", "PHA", "EOR", "LSR", "ALR", "JMP", "EOR", "LSR", "SRE"],
   ["BVC", "EOR", "NOP", "SRE", "NOP", "EOR", "LSR", "SRE", "CLI", "EOR", "NOP", "SRE", "NOP", "EOR", "LSR", "SRE"],
   ["RTS", "ADC", "NOP", "RRA", "NOP", "ADC", "ROR", "RRA", "PLA", "ADC", "ROR", "ARR", "JMP", "ADC", "ROR", "RRA"],
   ["BVS", "ADC", "NOP", "RRA", "NOP", "ADC", "ROR", "RRA", "SEI", "ADC", "NOP", "RRA", "NOP", "ADC", "ROR", "RRA"],
   ["NOP", "STA", "NOP", "SAX", "STY", "STA", "STX", "SAX", "DEY", "NOP", "TXA", "NOP", "STY", "STA", "STX", "SAX"],
   ["BCC", "STA", "NOP", "NOP", "STY", "STA", "STX", "SAX", "TYA", "STA", "TXS", "NOP", "NOP", "STA", "NOP", "NOP"],
   ["LDY", "LDA", "LDX", "LAX", "LDY", "LDA", "LDX", "LAX", "TAY", "LDA", "TAX", "NOP", "LDY", "LDA", "LDX", "LAX"],
   ["BCS", "LDA", "NOP", "LAX", "LDY", "LDA", "LDX", "LAX", "CLV", "LDA", "TSX", "LAS", "LDY", "LDA", "LDX", "LAX"],
   ["CPY", "CMP", "NOP", "DCP", "CPY", "CMP", "DEC", "DCP", "INY", "CMP", "DEX", "AXS", "CPY", "CMP", "DEC", "DCP"],
   ["BNE", "CMP", "NOP", "DCP", "NOP", "CMP", "DEC", "DCP", "CLD", "CMP", "NOP", "DCP", "NOP", "CMP", "DEC", "DCP"],
   ["CPX", "SBC", "NOP", "ISC", "CPX", "SBC", "INC", "ISC", "INX", "SBC", "NOP", "SBC", "CPX", "SBC", "INC", "ISC"],
   ["BEQ", "SBC", "NOP", "ISC", "NOP", "SBC", "INC", "ISC", "SED", "SBC", "NOP", "ISC", "NOP", "SBC", "INC", "ISC"]]

/-- The mnemonic of an opcode byte (R85). -/
def opMnemonic (op : Byte) : String := (mnemonicRows.getD (op.toNat / 16) []).getD (op.toNat % 16) ""

/-- Byte `k` of a table word: bits `8 k + 7` to `8 k` of its first `nbits` bits, 0 above them. -/
def tableByte (nbits w k : Nat) : Byte := BitVec.ofNat 8 ((w % 2 ^ nbits) / 256 ^ k)

/-- The bytes of an instruction whose bits are `w`, numbered as spec/opcode_table.json numbers them, the
operand bits the table gives no row being zeros. -/
def tableBytes (nbits w : Nat) : List Byte := [tableByte nbits w 0, tableByte nbits w 1, tableByte nbits w 2]

/-- What the decoder reads from such a word. -/
def decodeTableWord (nbits w : Nat) : Option Instr :=
  match decode (tableBytes nbits w) with
  | .ok r => some r.1
  | .error _ => none

end Sys2Proof
end

