-- ==== Sys2Proof/Machine/Driver.lean ====
section
/-! DEFINITION. The clock driver and what stands around an instruction (spec/70_reset_and_hazards.md R380,
R390; spec/60_exceptions.md R285; spec/40_step_addressing.md R100, R102): the boundary's inputs, reset, the
interrupt poll, instruction fetch, the dots and audio ticks a step pays for; and the placing of an
instruction where the next step fetches it. -/

namespace Sys2Proof.Machine

/-! ## The clock -/

/-- The `3 * n` dots and `n` audio ticks of `n` CPU cycles (R390, R391). The audio ticks follow the dots:
their order is left open and cannot be observed (R390, notes/assumptions/7.md). -/
def runClock (n : Nat) (s : State) : State :=
  { s with
    ppu := runDots s.cart (3 * n) s.ppu
    events := s.events ++ frameEvents s.cart (3 * n) s.ppu ++ List.replicate n .audioTick }

/-- The end of a driver step: `cyc <- cyc + n`, then the clock (R390). -/
def clock (s : State) : State := runClock s.cycles { s with cyc := s.cyc + s.cycles }

/-! ## Reset -/

/-- `Reset()` (R380): RAM, cartridge and parameters are kept, everything else is set; PC comes from the
reset vector; the reset's own cycles run the clock. The environment's queues are kept (DEDUCED,
notes/assumptions/13.md). -/
def performReset (s : State) : State :=
  let s1 := { s with
    cpu := { a := 0, x := 0, y := 0, sp := 0xFD, pc := s.cpu.pc, p := 0x24, nmiPrev := false }
    ppu := resetPpu }
  let r := readPair 0xFFFC 0xFFFD s1
  runClock s.cfg.resetCycles { setPc r.1 r.2 with cyc := s.cfg.resetCycles }

/-- A cartridge at power-on: a writable pattern memory starts all 0x00, whatever it held; everything else is the
cartridge's own (R381). -/
def powerOnCartridge (c : Cartridge) : Cartridge := if c.chrIsRam then { c with chr := [] } else c

/-- Power-on: `RAM <- RAM_INIT`, a writable CHR all 0x00, then `Reset()` (R381); what the registers hold before
it plays no part (DESIGN CHOICE, notes/assumptions/16.md). -/
def powerOn (cfg : Config) (cart : Cartridge) (inputs : List BoundaryInput) (extIn : List Byte) : State :=
  performReset
    { cpu := { a := 0, x := 0, y := 0, sp := 0, pc := 0, p := 0x24, nmiPrev := false }
      ram := cfg.ramInit
      cyc := 0
      ppu := resetPpu
      cart := powerOnCartridge cart
      cfg := cfg
      cycles := 0
      irqLine := false
      inputs := inputs
      extIn := extIn
      extReads := 0
      events := [] }

/-! ## The instruction boundary -/

/-- The step's own fields start empty: no cycle charged, no event emitted (R8, R100). -/
def beginStep (s : State) : State := { s with cycles := 0, events := [] }

/-- The environment's lines at this boundary: the next of `inputs`; when none is left, no reset is requested
and the IRQ line keeps its level (notes/assumptions/2.md). -/
def sampleInputs (s : State) : BoundaryInput × State :=
  match s.inputs with
  | [] => ({ resetRequest := false, irqLine := s.irqLine }, s)
  | b :: rest => (b, { s with inputs := rest, irqLine := b.irqLine })

/-- `PollInterrupts()` (R285 to R287): the interrupt to service, and the edge detector updated. -/
def pollInterrupts (s : State) : Option Interrupt × State :=
  let line := nmiLine s.ppu
  let kind :=
    if line && !s.cpu.nmiPrev then some .nmi
    else if !flag bitI s.cpu.p && s.irqLine then some .irq
    else none
  (kind, { s with cpu := { s.cpu with nmiPrev := line } })

/-- One instruction byte: `MemRead(PC, 1)`, then PC moves on (R84, R102). -/
def fetchByte (s : State) : Byte × State :=
  let r := busRead s.cpu.pc s
  (r.1, setPc (r.2.cpu.pc + 1) r.2)

/-- Fetch and decode: the opcode byte, then as many operand bytes as its format has, ascending (R80, R100,
R124). -/
def fetchInstr (s : State) : Instr × State :=
  let op := fetchByte s
  match opLength op.1 with
  | 1 => (decodeOp op.1 0 0, op.2)
  | 2 =>
    let b1 := fetchByte op.2
    (decodeOp op.1 b1.1 0, b1.2)
  | _ =>
    let b1 := fetchByte op.2
    let b2 := fetchByte b1.2
    (decodeOp op.1 b1.1 b2.1, b2.2)

/-- What a boundary comes to: a driver step that executes no instruction, or the instruction to execute
with PC past its bytes. -/
inductive Boundary where
  | finished (s : State)
  | execute (i : Instr) (s : State)
  deriving DecidableEq, Repr

/-- `DriverStep()` up to the instruction (R390, R100): a reset request first, then the interrupt poll (a
step that services one executes no instruction), then the fetch. -/
def boundary (s : State) : Boundary :=
  let b := sampleInputs (beginStep s)
  if b.1.resetRequest then .finished (performReset b.2)
  else
    let k := pollInterrupts b.2
    match k.1 with
    | some kind => .finished (clock (enterInterrupt kind k.2))
    | none =>
      let f := fetchInstr k.2
      .execute f.1 f.2

/-! ## Placing an instruction -/

/-- An address whose byte is storage, RAM or program memory, and not a device's answer (R45). -/
def holdsCode (a : Addr) : Bool := decide (a.toNat ≤ 0x1FFF) || decide (0x8000 ≤ a.toNat)

/-- The byte put into the RAM or the cartridge at a CPU address: what a loader does, not a bus write. -/
def placeByte (a : Addr) (v : Byte) (s : State) : State :=
  if a.toNat ≤ 0x1FFF then { s with ram := writeCell s.ram (ramIndex a) v }
  else { s with cart := { s.cart with prg := writeCell s.cart.prg (prgIndex s.cart a) v } }

/-- PC, or 0x0000 when PC or one of the two addresses after it is a device's. -/
def codePc (pc : Addr) : Addr :=
  if holdsCode pc && holdsCode (pc + 1) && holdsCode (pc + 2) then pc else 0x0000

/-- The next boundary takes no reset and no interrupt: the requests and lines that would be served there are
withdrawn, nothing else. -/
def quietBoundary (s : State) : State :=
  let masked := flag bitI s.cpu.p
  { s with
    cpu := { s.cpu with nmiPrev := s.cpu.nmiPrev || nmiLine s.ppu }
    irqLine := s.irqLine && (masked || !s.inputs.isEmpty)
    inputs :=
      match s.inputs with
      | [] => []
      | b :: rest => { resetRequest := false, irqLine := b.irqLine && masked } :: rest }

/-- The state whose next step fetches and executes the three bytes, and the first of them where PC stands
(notes/assumptions/5.md). -/
def placeInstruction (b0 b1 b2 : Byte) (s : State) : State :=
  let s1 := quietBoundary s
  let pc := codePc s1.cpu.pc
  placeByte (pc + 2) b2 (placeByte (pc + 1) b1 (placeByte pc b0 (setPc pc s1)))

end Sys2Proof.Machine
end

