-- ==== Sys2Proof/Machine/Loader.lean ====
section
/-! DEFINITION. From a cartridge image to a machine (spec/20_memory.md R59, spec/00_scope.md R6): the
header fields, the two errors that build no machine, and power-on with the loaded cartridge. -/

namespace Sys2Proof.Machine

/-- Why an image builds no machine. These are not machine faults (R59, R280; DESIGN CHOICE,
notes/assumptions/12.md). -/
inductive LoadError where
  /-- ROM-format error: bad magic signature, no program bank, or an image shorter than its header says. -/
  | romFormat
  /-- Unsupported-mapper error: the identifier is not 0. -/
  | unsupportedMapper
  /-- More banks than the one supported scheme maps: program banks over 2 or pattern banks over 1 (R6). -/
  | unmappableBanks
  deriving DecidableEq, Repr

/-- The bytes of a list as a memory, byte `k` of the list at index `lo + k`. -/
def cellsFrom : Nat → List Byte → Memory
  | _, [] => []
  | lo, b :: rest => if b = unlisted 8 then cellsFrom (lo + 1) rest else (lo, b) :: cellsFrom (lo + 1) rest

/-- The magic signature of header bytes 0 to 3 (R59). -/
def magic : List Byte := [0x4E, 0x45, 0x53, 0x1A]

/-- Header byte `k`. -/
def headerByte (image : List Byte) (k : Nat) : Byte := image.getD k 0

/-- PRG_BANKS of R6. -/
def prgBanksOf (n : Nat) : Except LoadError PrgBanks :=
  if n = 0 then .error .romFormat
  else if n = 1 then .ok .one
  else if n = 2 then .ok .two
  else .error .unmappableBanks

/-- The mapper identifier: low nibble from byte 6, high nibble from byte 7 (R59). -/
def mapperOf (image : List Byte) : Byte :=
  (headerByte image 7 &&& 0xF0) ||| (headerByte image 6 >>> 4)

/-- The mirroring flag of byte 6: bit 3 four-screen, else bit 0 vertical (R59). -/
def mirroringOf (image : List Byte) : Mirroring :=
  if (headerByte image 6).getLsbD 3 then .fourScreen
  else if (headerByte image 6).getLsbD 0 then .vertical
  else .horizontal

/-- The cartridge of an image: header, program data, pattern data (R59). -/
def loadCartridge (image : List Byte) : Except LoadError Cartridge :=
  if image.length < 16 ∨ image.take 4 ≠ magic then .error .romFormat
  else
    match prgBanksOf (headerByte image 4).toNat with
    | .error e => .error e
    | .ok banks =>
      let chrBanks := (headerByte image 5).toNat
      if mapperOf image ≠ 0 then .error .unsupportedMapper
      else if chrBanks > 1 then .error .unmappableBanks
      else if image.length < 16 + prgSize banks + 8192 * chrBanks then .error .romFormat
      else
        .ok
          { prg := cellsFrom 0 ((image.drop 16).take (prgSize banks))
            prgBanks := banks
            chr := if chrBanks = 0 then [] else cellsFrom 0 ((image.drop (16 + prgSize banks)).take 8192)
            chrIsRam := decide (chrBanks = 0)
            mirroring := mirroringOf image
            mapperId := .zero }

/-- The machine an image starts, at the end of power-on (R381, R392). -/
def boot (cfg : Config) (image : List Byte) (inputs : List BoundaryInput) (extIn : List Byte) :
    Except LoadError State :=
  match loadCartridge image with
  | .error e => .error e
  | .ok cart => .ok (powerOn cfg cart inputs extIn)

end Sys2Proof.Machine
end

