-- ==== Sys2Proof/Machine/Step.lean ====
section
/-! DEFINITION. One step of the machine, `DriverStep()` (spec/70_reset_and_hazards.md R390), with its three
outcomes. -/

namespace Sys2Proof.Machine

/-- One driver step: the boundary (reset, interrupt service, fetch), the instruction, the clock. -/
def step (s : State) : Host.Outcome State Fault Refusal :=
  match boundary s with
  | .finished t => .next t
  | .execute i t =>
    match exec i t with
    | .next u => .next (clock u)
    | .fault f => .fault f
    | .refused r => .refused r

/-- `s` with the instruction of a table word where the next step fetches it. -/
def State.withFetchWord (s : State) (nbits w : Nat) : State :=
  placeInstruction (tableByte nbits w 0) (tableByte nbits w 1) (tableByte nbits w 2) s

end Sys2Proof.Machine
end

