-- ==== Sys2Proof/Safety.lean ====
section
/-! DEFINITION. What a good state of the machine is: the invariants the spec states or that its ranges and
sizes amount to (spec/10_state.md R15, R19, R26 to R29). No step of the machine faults (R280, R392), so a
safe run is one whose states all meet them. -/

namespace Sys2Proof.Machine

/-- P has bit 5 set and the break bit clear (R15). -/
def statusOk (p : Byte) : Bool := flag bitU p && !flag bitB p

/-- A memory of `size` cells: canonical form, nothing listed beyond the end. -/
def sized {w : Nat} (size : Nat) (m : Cells w) : Bool := Memory.wf m && within size m

/-- The position is one of the 262 × 341 (R27; DESIGN CHOICE, notes/assumptions/17.md). -/
def positionOk (p : Ppu) : Bool := decide (p.scanline ≤ 261) && decide (p.dot ≤ 340)

/-- The picture unit's memories have the sizes of R26 and R29, and at most eight sprites are selected
(R28). -/
def ppuOk (m : Mirroring) (p : Ppu) : Bool :=
  sized (ntSize m) p.nt && sized 32 p.pal && sized 256 p.oam && sized 61440 p.fb && positionOk p
    && decide (p.lineSprites.length ≤ 8)

/-- The cartridge's memories have the sizes of R6. -/
def cartOk (c : Cartridge) : Bool := sized (prgSize c.prgBanks) c.prg && sized 8192 c.chr

/-- The invariant every step keeps. -/
def State.inv (s : State) : Bool :=
  statusOk s.cpu.p && sized 2048 s.ram && ppuOk s.cart.mirroring s.ppu && cartOk s.cart

/-- `k` steps from `s` end in `t`, with no stop on the way. -/
def runsTo : Nat → State → State → Prop
  | 0, s, t => t = s
  | k + 1, s, t => ∃ u, step s = .next u ∧ runsTo k u t

end Sys2Proof.Machine
end

