-- ==== Sys2Proof/Certificates/Slice0/Obligations.lean ====
section
/-! DEFINITION. The statements for the provers, and the words they are written in: the rows of the opcode
table as the spec lists them, what an instruction's flags, registers and memory are afterwards, written as
relations over bits and integers and not with the model's own computations. -/

namespace Sys2Proof.Claims

open Sys2Proof.Machine

/-! ## Flags (spec/10_state.md R14, spec/40_step_addressing.md R122, R126, R127) -/

/-- N and Z describe `v`; no other bit of P changes. -/
def SetsNZ (v p q : Byte) : Prop :=
  flag bitN q = v.getLsbD 7 ∧ flag bitZ q = decide (v = 0)
    ∧ ∀ k, k ≠ bitN → k ≠ bitZ → flag k q = flag k p

/-- C is `c`, N and Z describe `v`; no other bit of P changes. -/
def SetsCNZ (c : Bool) (v p q : Byte) : Prop :=
  flag bitC q = c ∧ flag bitN q = v.getLsbD 7 ∧ flag bitZ q = decide (v = 0)
    ∧ ∀ k, k ≠ bitC → k ≠ bitN → k ≠ bitZ → flag k q = flag k p

/-- C is `c`, V is `o`, N and Z describe `v`; no other bit of P changes. -/
def SetsCVNZ (c o : Bool) (v p q : Byte) : Prop :=
  flag bitC q = c ∧ flag bitV q = o ∧ flag bitN q = v.getLsbD 7 ∧ flag bitZ q = decide (v = 0)
    ∧ ∀ k, k ≠ bitC → k ≠ bitV → k ≠ bitN → k ≠ bitZ → flag k q = flag k p

/-- Bit `i` of P is `b`; no other bit of P changes. -/
def SetsFlag (i : Nat) (b : Bool) (p q : Byte) : Prop :=
  flag i q = b ∧ ∀ k, k ≠ i → flag k q = flag k p

/-- The status byte `q` is P with bit 4 equal to `b` and bit 5 set (R126). -/
def PackedStatus (b : Bool) (p q : Byte) : Prop :=
  flag bitB q = b ∧ flag bitU q = true ∧ ∀ k, k ≠ bitB → k ≠ bitU → flag k q = flag k p

/-- P is the popped byte `v` with bit 4 clear and bit 5 set (R127). -/
def UnpackedStatus (v q : Byte) : Prop :=
  flag bitB q = false ∧ flag bitU q = true ∧ ∀ k, k ≠ bitB → k ≠ bitU → flag k q = flag k v

/-! ## Memory -/

/-- Every byte of the picture unit's memory and of the sprite memory reads as before. -/
def PictureMemoryKept (s t : State) : Prop :=
  (∀ a, ppuRead t.cart t.ppu a = ppuRead s.cart s.ppu a)
    ∧ ∀ k, readCell t.ppu.oam k = readCell s.ppu.oam k

/-- Every byte of memory reads as before: RAM and program memory at every CPU address that is storage, the
picture unit's memory, the sprite memory. -/
def MemoryKept (s t : State) : Prop :=
  (∀ a, holdsCode a = true → (busRead a t).1 = (busRead a s).1) ∧ PictureMemoryKept s t

/-- A CPU address behind which a write may change the picture unit's memory or the sprite memory: registers
4 and 7 and the DMA trigger. -/
def writesPicture (ea : Addr) : Bool :=
  (decide (0x2000 ≤ ea.toNat) && decide (ea.toNat ≤ 0x3FFF)
    && (decide (ea.toNat % 8 = 4) || decide (ea.toNat % 8 = 7)))
  || decide (ea.toNat = 0x4014)

/-- The one byte stored is `v` at `ea`: a RAM address makes every mirror of that byte read `v`; every other
storage address reads as before (a store to program memory or to 0x4020-0x7FFF changes nothing); the
picture unit's memory reads as before unless `ea` is a register that writes it. -/
def StoresByte (ea : Addr) (v : Byte) (s t : State) : Prop :=
  (∀ a, holdsCode a = true →
    (busRead a t).1 =
      if ea.toNat ≤ 0x1FFF ∧ a.toNat ≤ 0x1FFF ∧ a.toNat % 0x800 = ea.toNat % 0x800 then v
      else (busRead a s).1)
    ∧ (writesPicture ea = false → PictureMemoryKept s t)

/-- The cycles a store to `ea` adds: those of a DMA transfer when it starts one (spec/20_memory.md R61). -/
def dmaExtra (ea : Addr) (cyc : Nat) : Nat :=
  if ea.toNat = 0x4014 then (if cyc % 2 = 0 then 513 else 514) else 0

/-- The RAM index of the stack byte `i` places below the one `sp` designates (R12). -/
def stackSlot (sp : Byte) (i : Nat) : Nat := 0x100 + (sp - BitVec.ofNat 8 i).toNat

/-- The RAM index of the stack byte `i` places above it. -/
def stackAbove (sp : Byte) (i : Nat) : Nat := 0x100 + (sp + BitVec.ofNat 8 i).toNat

/-- `new` is `old` with `bytes` pushed from `sp` on, the first at the highest slot; in canonical form. -/
def HoldsPushed (sp : Byte) (bytes : List Byte) (old new : Memory) : Prop :=
  Memory.wf new = true
    ∧ (∀ i, i < bytes.length → readCell new (stackSlot sp i) = bytes.getD i 0)
    ∧ ∀ k, (∀ i, i < bytes.length → k ≠ stackSlot sp i) → readCell new k = readCell old k

/-! ## Rows of the opcode table (spec/30_encoding.md R85 to R90) -/

/-- A row at given operand bytes: the instruction, the opcode byte, the base cycle count, and whether a page
cross adds a cycle, as R88 and R89 list them. -/
structure Row where
  instr : Instr
  opcode : Byte
  cycles : Nat
  penalty : Bool
  deriving DecidableEq, Repr

/-- The row's instruction is encoded with the row's opcode byte first. -/
def Row.encoded (r : Row) : Prop := (encode r.instr).head? = some r.opcode

/-- The cycles of a row that reads its operand (R87, R119). -/
def Row.readCycles (r : Row) (crossed : Bool) : Nat := r.cycles + (if r.penalty && crossed then 1 else 0)

/-- The memory operations: the mnemonics with a row that reads or writes an effective address. -/
inductive MemoryOp where
  | lda
  | ldx
  | ldy
  | lax
  | sta
  | stx
  | sty
  | sax
  | adc
  | sbc
  | and
  | ora
  | eor
  | cmp
  | cpx
  | cpy
  | bit
  | inc
  | dec
  | asl
  | lsr
  | rol
  | ror
  | slo
  | rla
  | sre
  | rra
  | dcp
  | isc
  | las
  | nop
  deriving DecidableEq, Repr

/-- LDA's rows at each mode of memory (R140: encodings and cycles). -/
def ldaRows : Mode → List Row
  | .zp b => [⟨.ldaZp b, 0xA5, 3, false⟩]
  | .zpx b => [⟨.ldaZpx b, 0xB5, 4, false⟩]
  | .abs a => [⟨.ldaAbs a, 0xAD, 4, false⟩]
  | .abx a => [⟨.ldaAbx a, 0xBD, 4, true⟩]
  | .aby a => [⟨.ldaAby a, 0xB9, 4, true⟩]
  | .izx b => [⟨.ldaIzx b, 0xA1, 6, false⟩]
  | .izy b => [⟨.ldaIzy b, 0xB1, 5, true⟩]
  | _ => []

/-- LDX's rows at each mode of memory (R141: encodings and cycles). -/
def ldxRows : Mode → List Row
  | .zp b => [⟨.ldxZp b, 0xA6, 3, false⟩]
  | .zpy b => [⟨.ldxZpy b, 0xB6, 4, false⟩]
  | .abs a => [⟨.ldxAbs a, 0xAE, 4, false⟩]
  | .aby a => [⟨.ldxAby a, 0xBE, 4, true⟩]
  | _ => []

/-- LDY's rows at each mode of memory (R142: encodings and cycles). -/
def ldyRows : Mode → List Row
  | .zp b => [⟨.ldyZp b, 0xA4, 3, false⟩]
  | .zpx b => [⟨.ldyZpx b, 0xB4, 4, false⟩]
  | .abs a => [⟨.ldyAbs a, 0xAC, 4, false⟩]
  | .abx a => [⟨.ldyAbx a, 0xBC, 4, true⟩]
  | _ => []

/-- LAX's rows at each mode of memory (R241: encodings and cycles). -/
def laxRows : Mode → List Row
  | .zp b => [⟨.laxZp b, 0xA7, 3, false⟩]
  | .zpy b => [⟨.laxZpy b, 0xB7, 4, false⟩]
  | .abs a => [⟨.laxAbs a, 0xAF, 4, false⟩]
  | .aby a => [⟨.laxAby a, 0xBF, 4, true⟩]
  | .izx b => [⟨.laxIzx b, 0xA3, 6, false⟩]
  | .izy b => [⟨.laxIzy b, 0xB3, 5, true⟩]
  | _ => []

/-- STA's rows at each mode of memory (R143: encodings and cycles). -/
def staRows : Mode → List Row
  | .zp b => [⟨.staZp b, 0x85, 3, false⟩]
  | .zpx b => [⟨.staZpx b, 0x95, 4, false⟩]
  | .abs a => [⟨.staAbs a, 0x8D, 4, false⟩]
  | .abx a => [⟨.staAbx a, 0x9D, 5, false⟩]
  | .aby a => [⟨.staAby a, 0x99, 5, false⟩]
  | .izx b => [⟨.staIzx b, 0x81, 6, false⟩]
  | .izy b => [⟨.staIzy b, 0x91, 6, false⟩]
  | _ => []

/-- STX's rows at each mode of memory (R144: encodings and cycles). -/
def stxRows : Mode → List Row
  | .zp b => [⟨.stxZp b, 0x86, 3, false⟩]
  | .zpy b => [⟨.stxZpy b, 0x96, 4, false⟩]
  | .abs a => [⟨.stxAbs a, 0x8E, 4, false⟩]
  | _ => []

/-- STY's rows at each mode of memory (R145: encodings and cycles). -/
def styRows : Mode → List Row
  | .zp b => [⟨.styZp b, 0x84, 3, false⟩]
  | .zpx b => [⟨.styZpx b, 0x94, 4, false⟩]
  | .abs a => [⟨.styAbs a, 0x8C, 4, false⟩]
  | _ => []

/-- SAX's rows at each mode of memory (R242: encodings and cycles). -/
def saxRows : Mode → List Row
  | .zp b => [⟨.saxZp b, 0x87, 3, false⟩]
  | .zpy b => [⟨.saxZpy b, 0x97, 4, false⟩]
  | .abs a => [⟨.saxAbs a, 0x8F, 4, false⟩]
  | .izx b => [⟨.saxIzx b, 0x83, 6, false⟩]
  | _ => []

/-- ADC's rows at each mode of memory (R160: encodings and cycles). -/
def adcRows : Mode → List Row
  | .zp b => [⟨.adcZp b, 0x65, 3, false⟩]
  | .zpx b => [⟨.adcZpx b, 0x75, 4, false⟩]
  | .abs a => [⟨.adcAbs a, 0x6D, 4, false⟩]
  | .abx a => [⟨.adcAbx a, 0x7D, 4, true⟩]
  | .aby a => [⟨.adcAby a, 0x79, 4, true⟩]
  | .izx b => [⟨.adcIzx b, 0x61, 6, false⟩]
  | .izy b => [⟨.adcIzy b, 0x71, 5, true⟩]
  | _ => []

/-- SBC's rows at each mode of memory (R161: encodings and cycles). -/
def sbcRows : Mode → List Row
  | .zp b => [⟨.sbcZp b, 0xE5, 3, false⟩]
  | .zpx b => [⟨.sbcZpx b, 0xF5, 4, false⟩]
  | .abs a => [⟨.sbcAbs a, 0xED, 4, false⟩]
  | .abx a => [⟨.sbcAbx a, 0xFD, 4, true⟩]
  | .aby a => [⟨.sbcAby a, 0xF9, 4, true⟩]
  | .izx b => [⟨.sbcIzx b, 0xE1, 6, false⟩]
  | .izy b => [⟨.sbcIzy b, 0xF1, 5, true⟩]
  | _ => []

/-- AND's rows at each mode of memory (R162: encodings and cycles). -/
def andRows : Mode → List Row
  | .zp b => [⟨.andZp b, 0x25, 3, false⟩]
  | .zpx b => [⟨.andZpx b, 0x35, 4, false⟩]
  | .abs a => [⟨.andAbs a, 0x2D, 4, false⟩]
  | .abx a => [⟨.andAbx a, 0x3D, 4, true⟩]
  | .aby a => [⟨.andAby a, 0x39, 4, true⟩]
  | .izx b => [⟨.andIzx b, 0x21, 6, false⟩]
  | .izy b => [⟨.andIzy b, 0x31, 5, true⟩]
  | _ => []

/-- ORA's rows at each mode of memory (R163: encodings and cycles). -/
def oraRows : Mode → List Row
  | .zp b => [⟨.oraZp b, 0x05, 3, false⟩]
  | .zpx b => [⟨.oraZpx b, 0x15, 4, false⟩]
  | .abs a => [⟨.oraAbs a, 0x0D, 4, false⟩]
  | .abx a => [⟨.oraAbx a, 0x1D, 4, true⟩]
  | .aby a => [⟨.oraAby a, 0x19, 4, true⟩]
  | .izx b => [⟨.oraIzx b, 0x01, 6, false⟩]
  | .izy b => [⟨.oraIzy b, 0x11, 5, true⟩]
  | _ => []

/-- EOR's rows at each mode of memory (R164: encodings and cycles). -/
def eorRows : Mode → List Row
  | .zp b => [⟨.eorZp b, 0x45, 3, false⟩]
  | .zpx b => [⟨.eorZpx b, 0x55, 4, false⟩]
  | .abs a => [⟨.eorAbs a, 0x4D, 4, false⟩]
  | .abx a => [⟨.eorAbx a, 0x5D, 4, true⟩]
  | .aby a => [⟨.eorAby a, 0x59, 4, true⟩]
  | .izx b => [⟨.eorIzx b, 0x41, 6, false⟩]
  | .izy b => [⟨.eorIzy b, 0x51, 5, true⟩]
  | _ => []

/-- CMP's rows at each mode of memory (R165: encodings and cycles). -/
def cmpRows : Mode → List Row
  | .zp b => [⟨.cmpZp b, 0xC5, 3, false⟩]
  | .zpx b => [⟨.cmpZpx b, 0xD5, 4, false⟩]
  | .abs a => [⟨.cmpAbs a, 0xCD, 4, false⟩]
  | .abx a => [⟨.cmpAbx a, 0xDD, 4, true⟩]
  | .aby a => [⟨.cmpAby a, 0xD9, 4, true⟩]
  | .izx b => [⟨.cmpIzx b, 0xC1, 6, false⟩]
  | .izy b => [⟨.cmpIzy b, 0xD1, 5, true⟩]
  | _ => []

/-- CPX's rows at each mode of memory (R166: encodings and cycles). -/
def cpxRows : Mode → List Row
  | .zp b => [⟨.cpxZp b, 0xE4, 3, false⟩]
  | .abs a => [⟨.cpxAbs a, 0xEC, 4, false⟩]
  | _ => []

/-- CPY's rows at each mode of memory (R167: encodings and cycles). -/
def cpyRows : Mode → List Row
  | .zp b => [⟨.cpyZp b, 0xC4, 3, false⟩]
  | .abs a => [⟨.cpyAbs a, 0xCC, 4, false⟩]
  | _ => []

/-- BIT's rows at each mode of memory (R168: encodings and cycles). -/
def bitRows : Mode → List Row
  | .zp b => [⟨.bitZp b, 0x24, 3, false⟩]
  | .abs a => [⟨.bitAbs a, 0x2C, 4, false⟩]
  | _ => []

/-- INC's rows at each mode of memory (R169: encodings and cycles). -/
def incRows : Mode → List Row
  | .zp b => [⟨.incZp b, 0xE6, 5, false⟩]
  | .zpx b => [⟨.incZpx b, 0xF6, 6, false⟩]
  | .abs a => [⟨.incAbs a, 0xEE, 6, false⟩]
  | .abx a => [⟨.incAbx a, 0xFE, 7, false⟩]
  | _ => []

/-- DEC's rows at each mode of memory (R170: encodings and cycles). -/
def decRows : Mode → List Row
  | .zp b => [⟨.decZp b, 0xC6, 5, false⟩]
  | .zpx b => [⟨.decZpx b, 0xD6, 6, false⟩]
  | .abs a => [⟨.decAbs a, 0xCE, 6, false⟩]
  | .abx a => [⟨.decAbx a, 0xDE, 7, false⟩]
  | _ => []

/-- ASL's rows at each mode of memory (R190: encodings and cycles). -/
def aslRows : Mode → List Row
  | .zp b => [⟨.aslZp b, 0x06, 5, false⟩]
  | .zpx b => [⟨.aslZpx b, 0x16, 6, false⟩]
  | .abs a => [⟨.aslAbs a, 0x0E, 6, false⟩]
  | .abx a => [⟨.aslAbx a, 0x1E, 7, false⟩]
  | _ => []

/-- LSR's rows at each mode of memory (R191: encodings and cycles). -/
def lsrRows : Mode → List Row
  | .zp b => [⟨.lsrZp b, 0x46, 5, false⟩]
  | .zpx b => [⟨.lsrZpx b, 0x56, 6, false⟩]
  | .abs a => [⟨.lsrAbs a, 0x4E, 6, false⟩]
  | .abx a => [⟨.lsrAbx a, 0x5E, 7, false⟩]
  | _ => []

/-- ROL's rows at each mode of memory (R192: encodings and cycles). -/
def rolRows : Mode → List Row
  | .zp b => [⟨.rolZp b, 0x26, 5, false⟩]
  | .zpx b => [⟨.rolZpx b, 0x36, 6, false⟩]
  | .abs a => [⟨.rolAbs a, 0x2E, 6, false⟩]
  | .abx a => [⟨.rolAbx a, 0x3E, 7, false⟩]
  | _ => []

/-- ROR's rows at each mode of memory (R193: encodings and cycles). -/
def rorRows : Mode → List Row
  | .zp b => [⟨.rorZp b, 0x66, 5, false⟩]
  | .zpx b => [⟨.rorZpx b, 0x76, 6, false⟩]
  | .abs a => [⟨.rorAbs a, 0x6E, 6, false⟩]
  | .abx a => [⟨.rorAbx a, 0x7E, 7, false⟩]
  | _ => []

/-- SLO's rows at each mode of memory (R245: encodings and cycles). -/
def sloRows : Mode → List Row
  | .zp b => [⟨.sloZp b, 0x07, 5, false⟩]
  | .zpx b => [⟨.sloZpx b, 0x17, 6, false⟩]
  | .abs a => [⟨.sloAbs a, 0x0F, 6, false⟩]
  | .abx a => [⟨.sloAbx a, 0x1F, 7, false⟩]
  | .aby a => [⟨.sloAby a, 0x1B, 7, false⟩]
  | .izx b => [⟨.sloIzx b, 0x03, 8, false⟩]
  | .izy b => [⟨.sloIzy b, 0x13, 8, false⟩]
  | _ => []

/-- RLA's rows at each mode of memory (R246: encodings and cycles). -/
def rlaRows : Mode → List Row
  | .zp b => [⟨.rlaZp b, 0x27, 5, false⟩]
  | .zpx b => [⟨.rlaZpx b, 0x37, 6, false⟩]
  | .abs a => [⟨.rlaAbs a, 0x2F, 6, false⟩]
  | .abx a => [⟨.rlaAbx a, 0x3F, 7, false⟩]
  | .aby a => [⟨.rlaAby a, 0x3B, 7, false⟩]
  | .izx b => [⟨.rlaIzx b, 0x23, 8, false⟩]
  | .izy b => [⟨.rlaIzy b, 0x33, 8, false⟩]
  | _ => []

/-- SRE's rows at each mode of memory (R247: encodings and cycles). -/
def sreRows : Mode → List Row
  | .zp b => [⟨.sreZp b, 0x47, 5, false⟩]
  | .zpx b => [⟨.sreZpx b, 0x57, 6, false⟩]
  | .abs a => [⟨.sreAbs a, 0x4F, 6, false⟩]
  | .abx a => [⟨.sreAbx a, 0x5F, 7, false⟩]
  | .aby a => [⟨.sreAby a, 0x5B, 7, false⟩]
  | .izx b => [⟨.sreIzx b, 0x43, 8, false⟩]
  | .izy b => [⟨.sreIzy b, 0x53, 8, false⟩]
  | _ => []

/-- RRA's rows at each mode of memory (R248: encodings and cycles). -/
def rraRows : Mode → List Row
  | .zp b => [⟨.rraZp b, 0x67, 5, false⟩]
  | .zpx b => [⟨.rraZpx b, 0x77, 6, false⟩]
  | .abs a => [⟨.rraAbs a, 0x6F, 6, false⟩]
  | .abx a => [⟨.rraAbx a, 0x7F, 7, false⟩]
  | .aby a => [⟨.rraAby a, 0x7B, 7, false⟩]
  | .izx b => [⟨.rraIzx b, 0x63, 8, false⟩]
  | .izy b => [⟨.rraIzy b, 0x73, 8, false⟩]
  | _ => []

/-- DCP's rows at each mode of memory (R243: encodings and cycles). -/
def dcpRows : Mode → List Row
  | .zp b => [⟨.dcpZp b, 0xC7, 5, false⟩]
  | .zpx b => [⟨.dcpZpx b, 0xD7, 6, false⟩]
  | .abs a => [⟨.dcpAbs a, 0xCF, 6, false⟩]
  | .abx a => [⟨.dcpAbx a, 0xDF, 7, false⟩]
  | .aby a => [⟨.dcpAby a, 0xDB, 7, false⟩]
  | .izx b => [⟨.dcpIzx b, 0xC3, 8, false⟩]
  | .izy b => [⟨.dcpIzy b, 0xD3, 8, false⟩]
  | _ => []

/-- ISC's rows at each mode of memory (R244: encodings and cycles). -/
def iscRows : Mode → List Row
  | .zp b => [⟨.iscZp b, 0xE7, 5, false⟩]
  | .zpx b => [⟨.iscZpx b, 0xF7, 6, false⟩]
  | .abs a => [⟨.iscAbs a, 0xEF, 6, false⟩]
  | .abx a => [⟨.iscAbx a, 0xFF, 7, false⟩]
  | .aby a => [⟨.iscAby a, 0xFB, 7, false⟩]
  | .izx b => [⟨.iscIzx b, 0xE3, 8, false⟩]
  | .izy b => [⟨.iscIzy b, 0xF3, 8, false⟩]
  | _ => []

/-- LAS's rows at each mode of memory (R253: encodings and cycles). -/
def lasRows : Mode → List Row
  | .aby a => [⟨.lasAby a, 0xBB, 4, true⟩]
  | _ => []

/-- NOP's rows at each mode of memory (R257: encodings and cycles). -/
def nopRows : Mode → List Row
  | .zp b => [⟨.nopZp04 b, 0x04, 3, false⟩, ⟨.nopZp44 b, 0x44, 3, false⟩, ⟨.nopZp64 b, 0x64, 3, false⟩]
  | .zpx b => [⟨.nopZpx14 b, 0x14, 4, false⟩, ⟨.nopZpx34 b, 0x34, 4, false⟩, ⟨.nopZpx54 b, 0x54, 4, false⟩, ⟨.nopZpx74 b, 0x74, 4, false⟩, ⟨.nopZpxD4 b, 0xD4, 4, false⟩, ⟨.nopZpxF4 b, 0xF4, 4, false⟩]
  | .abs a => [⟨.nopAbs0C a, 0x0C, 4, false⟩]
  | .abx a => [⟨.nopAbx1C a, 0x1C, 4, true⟩, ⟨.nopAbx3C a, 0x3C, 4, true⟩, ⟨.nopAbx5C a, 0x5C, 4, true⟩, ⟨.nopAbx7C a, 0x7C, 4, true⟩, ⟨.nopAbxDC a, 0xDC, 4, true⟩, ⟨.nopAbxFC a, 0xFC, 4, true⟩]
  | _ => []

/-- The rows of an operation at a mode (R88, R89). -/
def memRows : MemoryOp → Mode → List Row
  | .lda => ldaRows
  | .ldx => ldxRows
  | .ldy => ldyRows
  | .lax => laxRows
  | .sta => staRows
  | .stx => stxRows
  | .sty => styRows
  | .sax => saxRows
  | .adc => adcRows
  | .sbc => sbcRows
  | .and => andRows
  | .ora => oraRows
  | .eor => eorRows
  | .cmp => cmpRows
  | .cpx => cpxRows
  | .cpy => cpyRows
  | .bit => bitRows
  | .inc => incRows
  | .dec => decRows
  | .asl => aslRows
  | .lsr => lsrRows
  | .rol => rolRows
  | .ror => rorRows
  | .slo => sloRows
  | .rla => rlaRows
  | .sre => sreRows
  | .rra => rraRows
  | .dcp => dcpRows
  | .isc => iscRows
  | .las => lasRows
  | .nop => nopRows

/-- The immediate rows of an operation (R88, R89). -/
def immRows (k : MemoryOp) (m : Byte) : List Row :=
  match k with
  | .lda => [⟨.ldaImm m, 0xA9, 2, false⟩]
  | .ldx => [⟨.ldxImm m, 0xA2, 2, false⟩]
  | .ldy => [⟨.ldyImm m, 0xA0, 2, false⟩]
  | .adc => [⟨.adcImm m, 0x69, 2, false⟩]
  | .sbc => [⟨.sbcImm m, 0xE9, 2, false⟩, ⟨.sbcImmEB m, 0xEB, 2, false⟩]
  | .and => [⟨.andImm m, 0x29, 2, false⟩]
  | .ora => [⟨.oraImm m, 0x09, 2, false⟩]
  | .eor => [⟨.eorImm m, 0x49, 2, false⟩]
  | .cmp => [⟨.cmpImm m, 0xC9, 2, false⟩]
  | .cpx => [⟨.cpxImm m, 0xE0, 2, false⟩]
  | .cpy => [⟨.cpyImm m, 0xC0, 2, false⟩]
  | .nop => [⟨.nopImm80 m, 0x80, 2, false⟩, ⟨.nopImm82 m, 0x82, 2, false⟩, ⟨.nopImm89 m, 0x89, 2, false⟩, ⟨.nopImmC2 m, 0xC2, 2, false⟩, ⟨.nopImmE2 m, 0xE2, 2, false⟩]
  | _ => []

/-- The operand a row of class `read` or `rmw` reads: where, whether a page was crossed, the byte, and the
state after the pointer reads and the data read, in this order (R105, R124). -/
structure Operand where
  ea : Addr
  crossed : Bool
  value : Byte
  after : State

/-- The operand of mode `m` in state `s`. -/
def operand (m : Mode) (s : State) : Operand :=
  let e := resolve m s
  let r := busRead e.ea e.state
  { ea := e.ea, crossed := e.crossed, value := r.1, after := r.2 }

/-! ## Shapes of instructions -/

/-- THE MEMORY FORMS OF A READING OPERATION. Every row of `k`, at every mode it has, for every state,
completes; the CPU's registers are related by `E` to the byte read; everything else is what the reads left,
with the row's cycle count; nothing is stored: every byte of memory reads as before. -/
def ReadingForms (k : MemoryOp) (E : Byte → Cpu → Cpu → Prop) : Prop :=
  ∀ (m : Mode) (s : State) (row : Row), row ∈ memRows k m →
    row.encoded ∧ ∃ t, exec row.instr s = .next t
      ∧ E (operand m s).value s.cpu t.cpu
      ∧ t = { (operand m s).after with cpu := t.cpu, cycles := row.readCycles (operand m s).crossed }
      ∧ MemoryKept s t

/-- THE IMMEDIATE FORMS OF AN OPERATION. As above with the operand byte itself; nothing else of the state
changes but the cycle count. -/
def ImmediateForms (k : MemoryOp) (E : Byte → Cpu → Cpu → Prop) : Prop :=
  ∀ (b : Byte) (s : State) (row : Row), row ∈ immRows k b →
    row.encoded ∧ ∃ t, exec row.instr s = .next t
      ∧ E b s.cpu t.cpu ∧ t = { s with cpu := t.cpu, cycles := row.cycles }

/-- THE FORMS OF A STORING OPERATION. Every row completes; no register and no flag changes; the one store
is `V` of the registers at the address the mode resolves, in the state its pointer reads left; the cycle
count is the row's, and a transfer's when the store starts one. -/
def StoringForms (k : MemoryOp) (V : Cpu → Byte) : Prop :=
  ∀ (m : Mode) (s : State) (row : Row), row ∈ memRows k m →
    row.encoded ∧ ∃ t, exec row.instr s = .next t
      ∧ t = { busWrite (resolve m s).ea (V s.cpu) (resolve m s).state with
          cpu := s.cpu, cycles := row.cycles + dmaExtra (resolve m s).ea s.cyc }
      ∧ (Memory.wf s.ram = true → StoresByte (resolve m s).ea (V s.cpu) s t)

/-- THE FORMS OF A READ-MODIFY-WRITE OPERATION. Every row completes; `R` relates the byte read, P and the
byte written back at the same address; `E` relates the byte read, the byte written and the registers; the
one store follows the one read. -/
def ModifyingForms (k : MemoryOp) (R : Byte → Byte → Byte → Prop) (E : Byte → Byte → Cpu → Cpu → Prop) :
    Prop :=
  ∀ (m : Mode) (s : State) (row : Row), row ∈ memRows k m →
    row.encoded ∧ ∃ t r, exec row.instr s = .next t
      ∧ R (operand m s).value s.cpu.p r
      ∧ E (operand m s).value r s.cpu t.cpu
      ∧ t = { busWrite (operand m s).ea r (operand m s).after with
          cpu := t.cpu, cycles := row.cycles + dmaExtra (operand m s).ea s.cyc }
      ∧ (Memory.wf s.ram = true → StoresByte (operand m s).ea r s t)

/-- An implied or accumulator row completes; `E` relates the registers; nothing else of the state changes
but the cycle count. -/
def RegisterForm (row : Row) (E : Cpu → Cpu → Prop) : Prop :=
  ∀ s : State, row.encoded ∧ ∃ t, exec row.instr s = .next t
    ∧ E s.cpu t.cpu ∧ t = { s with cpu := t.cpu, cycles := row.cycles }

/-! ## What the operations do to the registers -/

/-- A takes the byte (R140). -/
def LoadsA (m : Byte) (c d : Cpu) : Prop := ∃ p, d = { c with a := m, p := p } ∧ SetsNZ m c.p p
/-- X takes the byte (R141). -/
def LoadsX (m : Byte) (c d : Cpu) : Prop := ∃ p, d = { c with x := m, p := p } ∧ SetsNZ m c.p p
/-- Y takes the byte (R142). -/
def LoadsY (m : Byte) (c d : Cpu) : Prop := ∃ p, d = { c with y := m, p := p } ∧ SetsNZ m c.p p
/-- A and X take the byte (R241). -/
def LoadsAX (m : Byte) (c d : Cpu) : Prop := ∃ p, d = { c with a := m, x := m, p := p } ∧ SetsNZ m c.p p
/-- A, X and SP take the byte and SP (R253). -/
def LoadsAXS (m : Byte) (c d : Cpu) : Prop :=
  ∃ p, d = { c with a := m &&& c.sp, x := m &&& c.sp, sp := m &&& c.sp, p := p } ∧ SetsNZ (m &&& c.sp) c.p p

/-- The integer lies outside the signed byte range (R175). -/
def outsideSigned (z : Int) : Bool := decide (z < -128) || decide (127 < z)

/-- The carry flag as an integer. -/
def carry (p : Byte) : Int := if flag bitC p then 1 else 0

/-- ADD WITH CARRY (R160, R175): A is the sum mod 256, C its ninth bit, V signed overflow; D plays no part
(R178). -/
def Adds (m : Byte) (c d : Cpu) : Prop :=
  ∃ r p, d = { c with a := r, p := p }
    ∧ (r.toNat : Int) = (c.a.toNat + m.toNat + carry c.p) % 256
    ∧ SetsCVNZ (decide (255 < (c.a.toNat : Int) + m.toNat + carry c.p))
        (outsideSigned (c.a.toInt + m.toInt + carry c.p)) r c.p p

/-- SUBTRACT WITH BORROW (R161): A is the difference mod 256, C set when there is no borrow, V signed
overflow of the difference; D plays no part (R178). -/
def Subtracts (m : Byte) (c d : Cpu) : Prop :=
  ∃ r p, d = { c with a := r, p := p }
    ∧ (r.toNat : Int) = ((c.a.toNat : Int) - m.toNat - (1 - carry c.p)) % 256
    ∧ SetsCVNZ (decide (0 ≤ (c.a.toNat : Int) - m.toNat - (1 - carry c.p)))
        (outsideSigned (c.a.toInt - m.toInt - (1 - carry c.p))) r c.p p

/-- AND (R162). -/
def Ands (m : Byte) (c d : Cpu) : Prop := LoadsA (c.a &&& m) c d
/-- OR (R163). -/
def Ors (m : Byte) (c d : Cpu) : Prop := LoadsA (c.a ||| m) c d
/-- EXCLUSIVE OR (R164). -/
def Xors (m : Byte) (c d : Cpu) : Prop := LoadsA (c.a ^^^ m) c d

/-- COMPARE of register value `r` with `m`: no register but P changes; C set when `r` is not below `m`
unsigned, N and Z describe the wrapped difference, V kept (R176). -/
def Compares (r m : Byte) (c d : Cpu) : Prop :=
  ∃ p, d = { c with p := p } ∧ SetsCNZ (decide (m.toNat ≤ r.toNat)) (r - m) c.p p

/-- BIT (R168): Z from A and m, N and V from bits 7 and 6 of m, nothing else. -/
def TestsBits (m : Byte) (c d : Cpu) : Prop :=
  ∃ p, d = { c with p := p } ∧ flag bitZ p = decide (c.a &&& m = 0) ∧ flag bitN p = m.getLsbD 7
    ∧ flag bitV p = m.getLsbD 6 ∧ ∀ k, k ≠ bitZ → k ≠ bitN → k ≠ bitV → flag k p = flag k c.p

/-- Only N and Z of P change, for the value written (R169, R170). -/
def CountsNZ (_m r : Byte) (c d : Cpu) : Prop := ∃ p, d = { c with p := p } ∧ SetsNZ r c.p p

/-- ASL's result (R190). -/
def ShiftsLeft (m _p r : Byte) : Prop := r.toNat = 2 * m.toNat % 256
/-- LSR's result (R191). -/
def ShiftsRight (m _p r : Byte) : Prop := r.toNat = m.toNat / 2
/-- ROL's result: the old carry enters bit 0 (R192). -/
def RotatesLeft (m p r : Byte) : Prop := (r.toNat : Int) = (2 * m.toNat + carry p) % 256
/-- ROR's result: the old carry enters bit 7 (R193). -/
def RotatesRight (m p r : Byte) : Prop := (r.toNat : Int) = (m.toNat / 2 : Nat) + 128 * carry p
/-- INC's result (R169). -/
def CountsUp (m _p r : Byte) : Prop := r.toNat = (m.toNat + 1) % 256
/-- DEC's result (R170). -/
def CountsDown (m _p r : Byte) : Prop := (r.toNat : Int) = ((m.toNat : Int) - 1) % 256

/-- C takes the old bit 7, N and Z describe the result (R190, R192). -/
def FlagsLeft (m r : Byte) (c d : Cpu) : Prop := ∃ p, d = { c with p := p } ∧ SetsCNZ (m.getLsbD 7) r c.p p
/-- C takes the old bit 0, N and Z describe the result (R191, R193). -/
def FlagsRight (m r : Byte) (c d : Cpu) : Prop := ∃ p, d = { c with p := p } ∧ SetsCNZ (m.getLsbD 0) r c.p p

/-- The accumulator form of a shift: the result goes to A (R194). -/
def ShiftsA (R : Byte → Byte → Byte → Prop) (out : Byte → Bool) (c d : Cpu) : Prop :=
  ∃ r p, R c.a c.p r ∧ d = { c with a := r, p := p } ∧ SetsCNZ (out c.a) r c.p p

/-- The second half of SLO, RLA and SRE: A takes `r'`, C is the bit shifted out (R245 to R247). -/
def Combines (out : Bool) (r' : Byte) (c d : Cpu) : Prop :=
  ∃ p, d = { c with a := r', p := p } ∧ SetsCNZ out r' c.p p

/-- The second half of RRA: the rotate's carry is the addition's carry in (R248). -/
def AddsRotated (m r : Byte) (c d : Cpu) : Prop :=
  ∃ p, SetsFlag bitC (m.getLsbD 0) c.p p ∧ Adds r { c with p := p } d

/-- No register changes. -/
def NoEffect (c d : Cpu) : Prop := d = c

/-! ## The instruction boundary -/

/-- The IRQ line as this boundary samples it. -/
def lineNow (s : State) : Bool :=
  match s.inputs with
  | [] => s.irqLine
  | b :: _ => b.irqLine

/-- No reset is requested at this boundary. -/
def noReset (s : State) : Prop := ∀ b, s.inputs.head? = some b → b.resetRequest = false

/-- The NMI line rises at this boundary (R285). -/
def nmiEdge (s : State) : Bool := nmiLine s.ppu && !s.cpu.nmiPrev

/-- The state a step's interrupt service or instruction starts from: the boundary's inputs consumed, the
edge detector updated, no cycle charged and no event emitted yet (R100, R285). -/
def atBoundary (s : State) : State :=
  { s with
    cycles := 0
    events := []
    inputs := s.inputs.tail
    irqLine := lineNow s
    cpu := { s.cpu with nmiPrev := nmiLine s.ppu } }

/-- No reset and no interrupt is taken at this boundary. -/
def quiet (s : State) : Prop :=
  noReset s ∧ nmiEdge s = false ∧ ¬ (lineNow s = true ∧ flag bitI s.cpu.p = false)

/-- The 16-bit quantity whose bytes lie at `a` and `a + 1`, as reads of program memory (R44, R289). -/
def vectorAt (a : Addr) (s : State) : Addr := (busRead (a + 1) s).1 ++ (busRead a s).1

/-- INTERRUPT ENTRY (R288, R290): `ret` and the status with break bit `b` are pushed, SP goes down by three,
I is set and no other flag changes, PC is the vector's content, seven cycles; nothing else changes. -/
def Enters (vec ret : Addr) (b : Bool) (s t : State) : Prop :=
  ∃ st p m, PackedStatus b s.cpu.p st ∧ SetsFlag bitI true s.cpu.p p
    ∧ HoldsPushed s.cpu.sp [ret.extractLsb' 8 8, ret.extractLsb' 0 8, st] s.ram m
    ∧ t = { s with
        ram := m
        cpu := { s.cpu with sp := s.cpu.sp - 3, p := p, pc := vectorAt vec s }
        cycles := 7 }

/-- The picture unit as a reset leaves it, by the table R32, at dot `d` of the first line: 0 before the reset's
own dots, 21 after those of the default RESET_CYCLES. -/
def ResetPicture (d : Nat) (q : Ppu) : Prop :=
  q.ctrl = 0 ∧ q.mask = 0 ∧ q.vblank = false ∧ q.spr0 = false ∧ q.ovf = false ∧ q.oamAddr = 0
    ∧ q.readBuffer = 0 ∧ q.v = 0 ∧ q.t = 0 ∧ q.x = 0 ∧ q.w = false
    ∧ (∀ k, readCell q.nt k = 0) ∧ (∀ k, readCell q.pal k = 0) ∧ (∀ k, readCell q.oam k = 0)
    ∧ q.scanline = 0 ∧ q.dot = d ∧ q.oddFrame = false ∧ q.frame = 0
    ∧ q.bgLo = 0 ∧ q.bgHi = 0 ∧ q.atLo = 0 ∧ q.atHi = 0
    ∧ q.ntLatch = 0 ∧ q.atLatch = 0 ∧ q.patLoLatch = 0 ∧ q.patHiLatch = 0
    ∧ q.lineSprites = [] ∧ ∀ k, readCell q.fb k = 0

/-- The CPU's registers as a reset leaves them, with PC at the reset vector (R32). -/
def ResetCpu (vec : Addr) (c : Cpu) : Prop :=
  c.a = 0 ∧ c.x = 0 ∧ c.y = 0 ∧ c.sp = 0xFD ∧ c.p = 0x24 ∧ c.nmiPrev = false ∧ c.pc = vec

/-- `n` instruction bytes fetched in ascending order through the bus, PC moving past each (R84, R124). -/
def fetchBytes : Nat → State → List Byte × State
  | 0, s => ([], s)
  | n + 1, s =>
    let r := busRead s.cpu.pc s
    let rest := fetchBytes n { r.2 with cpu := { r.2.cpu with pc := s.cpu.pc + 1 } }
    (r.1 :: rest.1, rest.2)

/-! ## The opcode matrix against the meanings -/

/-- The mode an instruction's bytes give it, if it resolves an address in memory. -/
def modeOf (i : Instr) : Option Mode :=
  match encode i with
  | [op, b] =>
    match opFormat op with
    | .zp => some (.zp b)
    | .zpx => some (.zpx b)
    | .zpy => some (.zpy b)
    | .izx => some (.izx b)
    | .izy => some (.izy b)
    | _ => none
  | [op, b, b'] =>
    match opFormat op with
    | .abs => some (.abs (b' ++ b))
    | .abx => some (.abx (b' ++ b))
    | .aby => some (.aby (b' ++ b))
    | .ind => some (.ind (b' ++ b))
    | _ => none
  | _ => none

/-- The mnemonics whose memory rows store: classes `write` and `rmw` (R105). -/
def storingMnemonics : List String :=
  ["STA", "STX", "STY", "SAX", "INC", "DEC", "ASL", "LSR", "ROL", "ROR", "SLO", "RLA", "SRE", "RRA", "DCP",
    "ISC"]

/-- Whether the flags make a branch opcode's condition hold (R206 to R213), `none` for every other opcode. -/
def branchTaken (op : Byte) (p : Byte) : Option Bool :=
  if op = 0x90 then some (!flag bitC p)
  else if op = 0xB0 then some (flag bitC p)
  else if op = 0xF0 then some (flag bitZ p)
  else if op = 0xD0 then some (!flag bitZ p)
  else if op = 0x30 then some (flag bitN p)
  else if op = 0x10 then some (!flag bitN p)
  else if op = 0x50 then some (!flag bitV p)
  else if op = 0x70 then some (flag bitV p)
  else none

/-- The count R104 gives an instruction that starts in state `s`: base, page cross, branch, DMA. -/
def cyclesByTable (i : Instr) (s : State) : Nat :=
  let op := (encode i).headD 0
  let off := (encode i).getD 1 0
  opCycles op
    + (match modeOf i with
      | some m =>
        (if opPenalty op && (resolve m s).crossed then 1 else 0)
          + (if storingMnemonics.contains (opMnemonic op) then dmaExtra (resolve m s).ea s.cyc else 0)
      | none => 0)
    + (match branchTaken op s.cpu.p with
      | some true =>
        if s.cpu.pc.toNat / 256 = (s.cpu.pc + off.signExtend 16).toNat / 256 then 1 else 2
      | _ => 0)

/-! ## The picture unit -/

/-- The cell of NT behind a nametable address, as R317's table has it: which physical table each of the four
logical tables is. -/
def physicalTable (m : Mirroring) (table : Nat) : Nat :=
  match m with
  | .vertical => [0, 1, 0, 1].getD table 0
  | .horizontal => [0, 0, 1, 1].getD table 0
  | .fourScreen => [0, 1, 2, 3].getD table 0

/-- Two picture-unit addresses are one memory cell (R317 to R319). -/
def sameCell (m : Mirroring) (a b : VAddr) : Prop :=
  (a.toNat < 0x2000 ∧ a = b)
    ∨ (0x2000 ≤ a.toNat ∧ a.toNat < 0x3F00 ∧ 0x2000 ≤ b.toNat ∧ b.toNat < 0x3F00
        ∧ physicalTable m (a.toNat / 0x400 % 4) = physicalTable m (b.toNat / 0x400 % 4)
        ∧ a.toNat % 0x400 = b.toNat % 0x400)
    ∨ (0x3F00 ≤ a.toNat ∧ 0x3F00 ≤ b.toNat
        ∧ (a.toNat % 32 = b.toNat % 32
          ∨ (a.toNat % 16 = b.toNat % 16 ∧ a.toNat % 4 = 0)))

/-- The position as one number: the dots of the frame already passed (R341). -/
def framePosition (p : Ppu) : Nat := 341 * p.scanline + p.dot

/-- The dots of a render line that fetch for the background (R351). -/
def fetches (dot : Nat) : Prop := (1 ≤ dot ∧ dot ≤ 256) ∨ (321 ≤ dot ∧ dot ≤ 336)

/-- A background shifter of value `r` after a dot of a render line: doubled mod 65536 at dots 2 to 257 and 322
to 337, then with its low byte replaced at dots 9, 17, ..., 257, 329 and 337 (R351, R352). -/
def shiftedAt (dot r low : Nat) : Nat :=
  if (9 ≤ dot ∧ dot ≤ 257 ∧ dot % 8 = 1) ∨ dot = 329 ∨ dot = 337 then 2 * r % 65536 / 256 * 256 + low
  else if (2 ≤ dot ∧ dot ≤ 257) ∨ (322 ≤ dot ∧ dot ≤ 337) then 2 * r % 65536
  else r

/-- The record evaluation makes of sprite `n` for the next scanline: its index, X and attributes, and the two
pattern bytes of the row it shows there, the row counted from the bottom when attribute bit 7 is set, the
bytes reversed when bit 6 is set (R360, R363). -/
def IsRecordOf (c : Cartridge) (p : Ppu) (n : Nat) (r : LineSprite) : Prop :=
  ∃ row : Nat,
    row = (if (readCell p.oam (4 * n + 2)).getLsbD 7 then
        (if p.ctrl.getLsbD 5 then 16 else 8) - 1 - (p.scanline - (readCell p.oam (4 * n)).toNat)
      else p.scanline - (readCell p.oam (4 * n)).toNat)
    ∧ r.index.toNat = n ∧ r.x = readCell p.oam (4 * n + 3) ∧ r.attr = readCell p.oam (4 * n + 2)
    ∧ ∀ k, k < 8 →
      r.lo.getLsbD k = (ppuRead c p (spriteAddr p (readCell p.oam (4 * n + 1)) row)).getLsbD
          (if r.attr.getLsbD 6 then 7 - k else k)
        ∧ r.hi.getLsbD k = (ppuRead c p (spriteAddr p (readCell p.oam (4 * n + 1)) row + 8)).getLsbD
          (if r.attr.getLsbD 6 then 7 - k else k)

/-- Sprite `n` covers the next scanline: `0 ≤ scanline - Y < height` (R361). -/
def coversNextLine (p : Ppu) (n : Nat) : Prop :=
  (readCell p.oam (4 * n)).toNat ≤ p.scanline
    ∧ p.scanline < (readCell p.oam (4 * n)).toNat + (if p.ctrl.getLsbD 5 then 16 else 8)

/-- The program memory, the wiring and the parameters, none of which a run changes (R6, R7, R30), and the
pattern memory when it is not writable (R58). -/
def FixedPart (s t : State) : Prop :=
  t.cart.prg = s.cart.prg ∧ t.cart.prgBanks = s.cart.prgBanks ∧ t.cart.chrIsRam = s.cart.chrIsRam
    ∧ t.cart.mirroring = s.cart.mirroring ∧ t.cart.mapperId = s.cart.mapperId ∧ t.cfg = s.cfg
    ∧ (s.cart.chrIsRam = false → t.cart.chr = s.cart.chr)

end Sys2Proof.Claims

open Sys2Proof Sys2Proof.Machine Sys2Proof.Claims

/-! # Encoding -/

/-- R83, R86: words written out from the opcode matrix, one or more of each family, decode to the instruction
they stand for. -/
def Obligations.MatrixWordsDecode : Prop :=
  decode [0xA9, 0x80] = .ok (.ldaImm 0x80, [])
    ∧ decode [0xBD, 0xF6, 0x31] = .ok (.ldaAbx 0x31F6, [])
    ∧ decode [0x8D, 0x14, 0x40] = .ok (.staAbs 0x4014, [])
    ∧ decode [0xBA, 0xEA] = .ok (.tsx, [0xEA])
    ∧ decode [0x71, 0x86] = .ok (.adcIzy 0x86, [])
    ∧ decode [0x24, 0x10] = .ok (.bitZp 0x10, [])
    ∧ decode [0x6A] = .ok (.rorAcc, [])
    ∧ decode [0x6C, 0xFF, 0x02] = .ok (.jmpInd 0x02FF, [])
    ∧ decode [0xF0, 0xFD] = .ok (.beq 0xFD, [])
    ∧ decode [0x28] = .ok (.plp, [])
    ∧ decode [0xB7, 0x10] = .ok (.laxZpy 0x10, [])
    ∧ decode [0x9C, 0x00, 0x20] = .ok (.shyAbx 0x2000, [])

/-- R80 to R83: decoding what the encoder writes gives every instruction back with every operand at every
value, and leaves the bytes that follow it. -/
def Obligations.DecodeOfEncode : Prop :=
  ∀ (i : Instr) (rest : List Byte), i.wellFormed = true → decode (encode i ++ rest) = .ok (i, rest)

/-- R81, R82, R91: each byte string that starts an instruction starts exactly one: what the decoder reads off
it is what the encoder writes. No opcode byte is illegal: the decoder refuses a byte string exactly when it
is shorter than the instruction its first byte starts. -/
def Obligations.EveryOpcodeByteDecodes : Prop :=
  (∀ (bytes rest : List Byte) (i : Instr), decode bytes = .ok (i, rest) → bytes = encode i ++ rest)
    ∧ ∀ bytes : List Byte,
      (∃ e, decode bytes = .error e)
        ↔ bytes.length < (match bytes with
            | [] => 1
            | op :: _ => (opFormat op).length)

/-- R87, R104: the count every instruction's meaning charges is the opcode matrix's base count, plus one on a
page cross where the row has the mark, plus the branch's extra cycles, plus a DMA transfer's. -/
def Obligations.CyclesAreTheMatrix : Prop :=
  ∀ (i : Instr) (s : State), ∃ t, exec i s = .next t ∧ t.cycles = cyclesByTable i s

/-! # The step -/

/-- R100, R390: when the bytes at PC are storage and are the encoding of an instruction, and no reset and no
interrupt is due, the step is that instruction's execution from the boundary's state with PC past its bytes,
followed by the clock. -/
def Obligations.StepRunsTheDecodedInstruction : Prop :=
  ∀ (s : State) (i : Instr), quiet s →
    (∀ k, k < (encode i).length →
      holdsCode (s.cpu.pc + BitVec.ofNat 16 k) = true
        ∧ (busRead (s.cpu.pc + BitVec.ofNat 16 k) s).1 = (encode i).getD k 0) →
    ∃ u, exec i { atBoundary s with
            cpu := { (atBoundary s).cpu with pc := s.cpu.pc + BitVec.ofNat 16 (encode i).length } } = .next u
      ∧ step s = .next (clock u)

/-- R84, R102, R124: wherever PC stands, a device's window included, the instruction that runs is the one its
bytes decode to, each byte read once through the bus in ascending order before any other access. -/
def Obligations.FetchGoesThroughTheBus : Prop :=
  ∀ s : State, quiet s →
    ∃ i u, decode (fetchBytes (opLength (busRead s.cpu.pc (atBoundary s)).1) (atBoundary s)).1 = .ok (i, [])
      ∧ exec i (fetchBytes (opLength (busRead s.cpu.pc (atBoundary s)).1) (atBoundary s)).2 = .next u
      ∧ step s = .next (clock u)

/-- R390, R391: what the clock adds after a step of `n` cycles: `n` to `cyc`, `3 n` dots, `n` audio ticks and
the frames those dots complete; nothing else changes. -/
def Obligations.ClockRunsThreeDotsPerCycle : Prop :=
  ∀ s : State, ∃ e, clock s = { s with
      cyc := s.cyc + s.cycles
      ppu := runDots s.cart (3 * s.cycles) s.ppu
      events := s.events ++ e }
    ∧ e.count .audioTick = s.cycles
    ∧ e.filter (fun x => decide (x ≠ .audioTick)) = frameEvents s.cart (3 * s.cycles) s.ppu

/-- R392: every step of every state has a next state. -/
def Obligations.EveryStepHasANextState : Prop := ∀ s : State, ∃ t, step s = .next t

/-- R380, R32, R382: a reset request at a boundary is honoured before both interrupt lines: the next state is
the reset table's, whatever the state was, with RAM, the cartridge and the parameters kept; for every
RESET_CYCLES the reset's own dots run from the first dot of the frame, and with the default of 7 the position
is dot 21. That the step consumes its boundary's pair of inputs and keeps the environment's other inputs is the
model's choice (notes/assumptions/13.md). -/
def Obligations.ResetRequestGivesTheResetTable : Prop :=
  ∀ (s : State) (l : Bool) (rest : List BoundaryInput),
    s.inputs = { resetRequest := true, irqLine := l } :: rest →
    ∃ t q, step s = .next t ∧ ResetCpu (vectorAt 0xFFFC s) t.cpu
      ∧ ResetPicture 0 q ∧ t.ppu = runDots s.cart (3 * s.cfg.resetCycles) q
      ∧ t.cyc = s.cfg.resetCycles ∧ t.ram = s.ram ∧ t.cart = s.cart ∧ t.cfg = s.cfg
      ∧ t.events.count .audioTick = s.cfg.resetCycles
      ∧ t.events.filter (fun x => decide (x ≠ .audioTick)) = frameEvents s.cart (3 * s.cfg.resetCycles) q
      ∧ (s.cfg.resetCycles = 7 → ResetPicture 21 t.ppu ∧ t.events = List.replicate 7 .audioTick)
      ∧ t.inputs = rest ∧ t.extIn = s.extIn

/-- R32: every value of the reset table, in the state right after reset. That RAM reads 0 there is RAM_INIT's default
(notes/assumptions/6.md), and the vector is the one of a blank cartridge (notes/assumptions/5.md). -/
def Obligations.ResetStateIsTheResetTable : Prop :=
  ResetCpu (vectorAt 0xFFFC State.reset) State.reset.cpu ∧ ResetPicture 21 State.reset.ppu
    ∧ State.reset.cyc = 7 ∧ (∀ k, readCell State.reset.ram k = 0)

/-- R285, R287, R288, R289: a rising edge of the NMI line is serviced at the boundary whatever I and the IRQ
line are: the step is the entry through 0xFFFA with the break bit clear and PC unchanged as the return
address, and no instruction runs. -/
def Obligations.NmiEdgeIsServiced : Prop :=
  ∀ s : State, Memory.wf s.ram = true → noReset s → nmiEdge s = true →
    ∃ t, Enters 0xFFFA s.cpu.pc false (atBoundary s) t ∧ step s = .next (clock t)

/-- R284, R285, R286, R288: with no reset and no NMI edge, a high IRQ line is serviced at the boundary when I is
clear: the entry through 0xFFFE with the break bit clear. -/
def Obligations.IrqIsServicedWhenNotMasked : Prop :=
  ∀ s : State, Memory.wf s.ram = true → noReset s → nmiEdge s = false → lineNow s = true →
    flag bitI s.cpu.p = false →
    ∃ t, Enters 0xFFFE s.cpu.pc false (atBoundary s) t ∧ step s = .next (clock t)

/-- R17, R285, R297: after every step without a reset the edge detector holds the level the line had at that
step's boundary, so a line that stays high gives no second NMI. -/
def Obligations.EdgeDetectorHoldsTheLastLevel : Prop :=
  ∀ s t : State, noReset s → step s = .next t → t.cpu.nmiPrev = nmiLine s.ppu

/-! # Exceptions -/

/-- R204, R288: BRK's own effect is the entry through 0xFFFE with the break bit set in the pushed byte and the
address of BRK + 2 as the return address; the mask plays no part. -/
def Obligations.BrkTakesTheEntrySequence : Prop :=
  ∀ s : State, Memory.wf s.ram = true →
    (encode .brk).head? = some 0x00
      ∧ ∃ t, exec .brk s = .next t ∧ Enters 0xFFFE (s.cpu.pc + 1) true s t

/-- R203, R291: RTI restores P from the stack without its bits 4 and 5, then PC with no increment; SP goes up
by three; nothing else changes. -/
def Obligations.RtiRestoresStatusAndPc : Prop :=
  ∀ s : State, (encode .rti).head? = some 0x40
    ∧ ∃ t p, exec .rti s = .next t
      ∧ UnpackedStatus (readCell s.ram (stackAbove s.cpu.sp 1)) p
      ∧ t = { s with
          cpu := { s.cpu with
            sp := s.cpu.sp + 3
            p := p
            pc := readCell s.ram (stackAbove s.cpu.sp 3) ++ readCell s.ram (stackAbove s.cpu.sp 2) }
          cycles := 6 }

/-- R290, R291, R15: an entry of any kind followed by RTI restores every register of the interrupted program,
P and SP included, with PC at the saved address. -/
def Obligations.EntryThenRtiRestoresTheCpu : Prop :=
  ∀ (k : Interrupt) (s : State), State.inv s = true →
    ∃ t, exec .rti (enterInterrupt k s) = .next t ∧ t.cpu = { s.cpu with pc := returnAddr k s.cpu.pc }

/-! # Addressing modes -/

/-- R109 to R117, R123: the effective address and the page-cross flag of every mode, in integers: zero-page
indexing and zero-page pointers wrap in page 0, absolute indexing wraps at 65536, the indirect jump's high
byte comes from its pointer's own page; only the indexed modes over a 16-bit base can cross a page. -/
def Obligations.AddressingModesResolve : Prop :=
  ∀ s : State,
    (∀ b : Byte, (resolve (.zp b) s).ea.toNat = b.toNat)
      ∧ (∀ b : Byte, (resolve (.zpx b) s).ea.toNat = (b.toNat + s.cpu.x.toNat) % 256)
      ∧ (∀ b : Byte, (resolve (.zpy b) s).ea.toNat = (b.toNat + s.cpu.y.toNat) % 256)
      ∧ (∀ a : Addr, (resolve (.abs a) s).ea = a)
      ∧ (∀ a : Addr, (resolve (.abx a) s).ea.toNat = (a.toNat + s.cpu.x.toNat) % 65536
          ∧ (resolve (.abx a) s).crossed
            = decide ((resolve (.abx a) s).ea.toNat / 256 ≠ a.toNat / 256))
      ∧ (∀ a : Addr, (resolve (.aby a) s).ea.toNat = (a.toNat + s.cpu.y.toNat) % 65536
          ∧ (resolve (.aby a) s).crossed
            = decide ((resolve (.aby a) s).ea.toNat / 256 ≠ a.toNat / 256))
      ∧ (∀ b : Byte, (resolve (.izx b) s).ea.toNat
          = (readCell s.ram ((b.toNat + s.cpu.x.toNat) % 256)).toNat
            + 256 * (readCell s.ram ((b.toNat + s.cpu.x.toNat + 1) % 256)).toNat)
      ∧ (∀ b : Byte, ∃ base : Nat,
          base = (readCell s.ram b.toNat).toNat + 256 * (readCell s.ram ((b.toNat + 1) % 256)).toNat
            ∧ (resolve (.izy b) s).ea.toNat = (base + s.cpu.y.toNat) % 65536
            ∧ (resolve (.izy b) s).crossed = decide ((resolve (.izy b) s).ea.toNat / 256 ≠ base / 256))
      ∧ (∀ p : Addr, ∃ p' : Addr, p'.toNat = p.toNat / 256 * 256 + (p.toNat + 1) % 256
          ∧ (resolve (.ind p) s).ea.toNat
            = (busRead p s).1.toNat + 256 * (busRead p' (busRead p s).2).1.toNat
          ∧ (resolve (.ind p) s).state = (busRead p' (busRead p s).2).2)
      ∧ (∀ (b : Byte) (a : Addr), ∀ m ∈ [Mode.zp b, .zpx b, .zpy b, .abs a, .ind a, .izx b],
          (resolve m s).crossed = false)
      ∧ (∀ m : Mode, (∀ p, m ≠ .ind p) → (resolve m s).state = s)

/-! # Loads, stores, transfers -/

/-- R140, R141, R142, R241, R253: LDA, LDX, LDY, LAX and LAS put the operand byte (for LAS, the byte and SP)
into their registers, with N and Z; every form. -/
def Obligations.LoadsFillTheirRegister : Prop :=
  ReadingForms .lda LoadsA ∧ ImmediateForms .lda LoadsA
    ∧ ReadingForms .ldx LoadsX ∧ ImmediateForms .ldx LoadsX
    ∧ ReadingForms .ldy LoadsY ∧ ImmediateForms .ldy LoadsY
    ∧ ReadingForms .lax LoadsAX ∧ ReadingForms .las LoadsAXS

/-- R143, R144, R145, R242: STA, STX, STY and SAX make one store of A, X, Y, or A and X, and change no
register and no flag; every form. -/
def Obligations.StoresWriteOneByte : Prop :=
  StoringForms .sta (fun c => c.a) ∧ StoringForms .stx (fun c => c.x)
    ∧ StoringForms .sty (fun c => c.y) ∧ StoringForms .sax (fun c => c.a &&& c.x)

/-- R146 to R151: the six transfers; TXS alone sets no flag. -/
def Obligations.TransfersCopyARegister : Prop :=
  RegisterForm ⟨.tax, 0xAA, 2, false⟩ (fun c => LoadsX c.a c)
    ∧ RegisterForm ⟨.tay, 0xA8, 2, false⟩ (fun c => LoadsY c.a c)
    ∧ RegisterForm ⟨.txa, 0x8A, 2, false⟩ (fun c => LoadsA c.x c)
    ∧ RegisterForm ⟨.tya, 0x98, 2, false⟩ (fun c => LoadsA c.y c)
    ∧ RegisterForm ⟨.tsx, 0xBA, 2, false⟩ (fun c => LoadsX c.sp c)
    ∧ RegisterForm ⟨.txs, 0x9A, 2, false⟩ (fun c d => d = { c with sp := c.x })

/-! # Arithmetic, logic, compare -/

/-- R160, R175, R177, R178: ADC's result, its carry and its overflow, in integers; every form. -/
def Obligations.AdcAddsWithCarry : Prop := ReadingForms .adc Adds ∧ ImmediateForms .adc Adds

/-- R161, R254, R177, R178: SBC's result, its borrow and its overflow, in integers; every form, the second
immediate encoding 0xEB included. -/
def Obligations.SbcSubtractsWithBorrow : Prop := ReadingForms .sbc Subtracts ∧ ImmediateForms .sbc Subtracts

/-- R162, R163, R164: AND, ORA and EOR; every form. -/
def Obligations.LogicCombinesWithA : Prop :=
  ReadingForms .and Ands ∧ ImmediateForms .and Ands
    ∧ ReadingForms .ora Ors ∧ ImmediateForms .ora Ors
    ∧ ReadingForms .eor Xors ∧ ImmediateForms .eor Xors

/-- R165, R166, R167, R168, R176: CMP, CPX and CPY change only C, Z and N; BIT takes Z from A and the byte, N
and V from the byte itself; every form; no register but P changes. -/
def Obligations.ComparesAndBitSetFlagsOnly : Prop :=
  ReadingForms .cmp (fun m c => Compares c.a m c) ∧ ImmediateForms .cmp (fun m c => Compares c.a m c)
    ∧ ReadingForms .cpx (fun m c => Compares c.x m c) ∧ ImmediateForms .cpx (fun m c => Compares c.x m c)
    ∧ ReadingForms .cpy (fun m c => Compares c.y m c) ∧ ImmediateForms .cpy (fun m c => Compares c.y m c)
    ∧ ReadingForms .bit TestsBits

/-- R169, R170: INC and DEC write the wrapped byte back once, with N and Z; C and V stay; every form. -/
def Obligations.IncDecModifyMemory : Prop :=
  ModifyingForms .inc CountsUp CountsNZ ∧ ModifyingForms .dec CountsDown CountsNZ

/-- R171 to R174: INX, INY, DEX and DEY, wrapping mod 256. -/
def Obligations.IndexRegistersCount : Prop :=
  RegisterForm ⟨.inx, 0xE8, 2, false⟩ (fun c d => ∃ r : Byte, r.toNat = (c.x.toNat + 1) % 256 ∧ LoadsX r c d)
    ∧ RegisterForm ⟨.iny, 0xC8, 2, false⟩ (fun c d => ∃ r : Byte, r.toNat = (c.y.toNat + 1) % 256 ∧ LoadsY r c d)
    ∧ RegisterForm ⟨.dex, 0xCA, 2, false⟩
        (fun c d => ∃ r : Byte, (r.toNat : Int) = ((c.x.toNat : Int) - 1) % 256 ∧ LoadsX r c d)
    ∧ RegisterForm ⟨.dey, 0x88, 2, false⟩
        (fun c d => ∃ r : Byte, (r.toNat : Int) = ((c.y.toNat : Int) - 1) % 256 ∧ LoadsY r c d)

/-! # Shifts -/

/-- R190 to R194: the accumulator forms of ASL, LSR, ROL and ROR; V stays and the bus is not used. -/
def Obligations.ShiftsOfTheAccumulator : Prop :=
  RegisterForm ⟨.aslAcc, 0x0A, 2, false⟩ (ShiftsA ShiftsLeft fun m => m.getLsbD 7)
    ∧ RegisterForm ⟨.lsrAcc, 0x4A, 2, false⟩ (ShiftsA ShiftsRight fun m => m.getLsbD 0)
    ∧ RegisterForm ⟨.rolAcc, 0x2A, 2, false⟩ (ShiftsA RotatesLeft fun m => m.getLsbD 7)
    ∧ RegisterForm ⟨.rorAcc, 0x6A, 2, false⟩ (ShiftsA RotatesRight fun m => m.getLsbD 0)

/-- R190 to R194: the memory forms of ASL, LSR, ROL and ROR: one read, one write of the result. -/
def Obligations.ShiftsOfMemory : Prop :=
  ModifyingForms .asl ShiftsLeft FlagsLeft ∧ ModifyingForms .lsr ShiftsRight FlagsRight
    ∧ ModifyingForms .rol RotatesLeft FlagsLeft ∧ ModifyingForms .ror RotatesRight FlagsRight

/-! # Control flow -/

/-- R200, R115: JMP, absolute and indirect; the indirect pointer's two bytes are read in order, the low byte of the
target at the pointer and the high byte at the next address of the pointer's own page. -/
def Obligations.JmpSetsPc : Prop :=
  ∀ (a : Addr) (s : State),
    ((encode (.jmpAbs a)).head? = some 0x4C
      ∧ exec (.jmpAbs a) s = .next { s with cpu := { s.cpu with pc := a }, cycles := 3 })
    ∧ ((encode (.jmpInd a)).head? = some 0x6C
      ∧ ∃ t, exec (.jmpInd a) s = .next t
        ∧ (∃ a' : Addr, a'.toNat = a.toNat / 256 * 256 + (a.toNat + 1) % 256
          ∧ t = { (busRead a' (busRead a s).2).2 with
              cpu := { s.cpu with pc := (busRead a' (busRead a s).2).1 ++ (busRead a s).1 }, cycles := 5 })
        ∧ MemoryKept s t)

/-- R201, R202: JSR pushes the address of its own last byte, high byte first, and jumps; RTS pops the low and the
high byte and adds one, and stores nothing; neither changes a flag. -/
def Obligations.SubroutineCallAndReturn : Prop :=
  (∀ (a : Addr) (s : State), Memory.wf s.ram = true →
    (encode (.jsr a)).head? = some 0x20
      ∧ ∃ t m, exec (.jsr a) s = .next t
        ∧ HoldsPushed s.cpu.sp [(s.cpu.pc - 1).extractLsb' 8 8, (s.cpu.pc - 1).extractLsb' 0 8] s.ram m
        ∧ t = { s with ram := m, cpu := { s.cpu with sp := s.cpu.sp - 2, pc := a }, cycles := 6 })
  ∧ ∀ s : State, (encode .rts).head? = some 0x60
      ∧ ∃ t, exec .rts s = .next t
        ∧ t = { s with
            cpu := { s.cpu with
              sp := s.cpu.sp + 2
              pc := (readCell s.ram (stackAbove s.cpu.sp 2) ++ readCell s.ram (stackAbove s.cpu.sp 1)) + 1 }
            cycles := 6 }

/-- R201, R202: a subroutine that returns with the stack it was given comes back to the instruction after the
JSR with every register as before. -/
def Obligations.JsrThenRtsReturns : Prop :=
  ∀ (a : Addr) (s : State), Memory.wf s.ram = true →
    ∃ u t, exec (.jsr a) s = .next u ∧ exec .rts u = .next t ∧ t.cpu = s.cpu

/-- R205 to R213: each branch goes to the next instruction plus the signed offset, mod 65536, exactly when its
flag has its value: 2 cycles, 3 taken, 4 taken to another page; no flag changes and nothing else does. -/
def Obligations.BranchesTestOneFlag : Prop :=
  ∀ (off : Byte) (s : State) (i : Instr) (op : Byte) (fl : Nat) (v : Bool),
    (i, op, fl, v) ∈ ([(.bcc off, 0x90, 0, false), (.bcs off, 0xB0, 0, true), (.beq off, 0xF0, 1, true),
      (.bne off, 0xD0, 1, false), (.bmi off, 0x30, 7, true), (.bpl off, 0x10, 7, false),
      (.bvc off, 0x50, 6, false), (.bvs off, 0x70, 6, true)] : List (Instr × Byte × Nat × Bool)) →
    (encode i).head? = some op
      ∧ ∃ target : Addr, (target.toNat : Int) = (s.cpu.pc.toNat + off.toInt) % 65536
        ∧ exec i s = .next (if flag fl s.cpu.p = v then
            { s with
              cpu := { s.cpu with pc := target }
              cycles := if target.toNat / 256 = s.cpu.pc.toNat / 256 then 3 else 4 }
          else { s with cycles := 2 })

/-! # Stack, flags, no-operations -/

/-- R220, R221, R120: PHA pushes A; PHP pushes P with bits 4 and 5 set and leaves P; SP wraps in its page. -/
def Obligations.PushesStoreOneByte : Prop :=
  ∀ s : State, Memory.wf s.ram = true →
    ((encode .pha).head? = some 0x48 ∧ ∃ t m, exec .pha s = .next t
      ∧ HoldsPushed s.cpu.sp [s.cpu.a] s.ram m
      ∧ t = { s with ram := m, cpu := { s.cpu with sp := s.cpu.sp - 1 }, cycles := 3 })
    ∧ ((encode .php).head? = some 0x08 ∧ ∃ t m b, exec .php s = .next t
      ∧ PackedStatus true s.cpu.p b ∧ HoldsPushed s.cpu.sp [b] s.ram m
      ∧ t = { s with ram := m, cpu := { s.cpu with sp := s.cpu.sp - 1 }, cycles := 3 })

/-- R222, R223, R121: PLA pops A with N and Z; PLP pops P without bits 4 and 5; nothing is stored. -/
def Obligations.PullsLoadOneByte : Prop :=
  ∀ s : State,
    ((encode .pla).head? = some 0x68 ∧ ∃ t p, exec .pla s = .next t
      ∧ SetsNZ (readCell s.ram (stackAbove s.cpu.sp 1)) s.cpu.p p
      ∧ t = { s with
          cpu := { s.cpu with a := readCell s.ram (stackAbove s.cpu.sp 1), sp := s.cpu.sp + 1, p := p }
          cycles := 4 })
    ∧ ((encode .plp).head? = some 0x28 ∧ ∃ t p, exec .plp s = .next t
      ∧ UnpackedStatus (readCell s.ram (stackAbove s.cpu.sp 1)) p
      ∧ t = { s with cpu := { s.cpu with sp := s.cpu.sp + 1, p := p }, cycles := 4 })

/-- R224 to R230: each flag instruction sets or clears its flag and changes nothing else. -/
def Obligations.FlagInstructionsWriteOneFlag : Prop :=
  ∀ (i : Instr) (op : Byte) (fl : Nat) (v : Bool),
    (i, op, fl, v) ∈ ([(.clc, 0x18, 0, false), (.sec, 0x38, 0, true), (.cli, 0x58, 2, false),
      (.sei, 0x78, 2, true), (.clv, 0xB8, 6, false), (.cld, 0xD8, 3, false), (.sed, 0xF8, 3, true)] :
      List (Instr × Byte × Nat × Bool)) →
    RegisterForm ⟨i, op, 2, false⟩ (fun c d => ∃ p, d = { c with p := p } ∧ SetsFlag fl v c.p p)

/-- R231, R255 to R259: the implied no-operations, the twelve halting opcodes, the immediate no-operations and
the two unstable immediate opcodes change nothing but the cycle count; the no-operations with a memory operand
make the read, with its side effects, and drop the byte; the five store-type unstable opcodes neither read
nor write their address. -/
def Obligations.NoOperationsChangeNothing : Prop :=
  (∀ (i : Instr) (op : Byte),
    (i, op) ∈ ([(.nop, 0xEA), (.nopImp1A, 0x1A), (.nopImp3A, 0x3A), (.nopImp5A, 0x5A), (.nopImp7A, 0x7A),
      (.nopImpDA, 0xDA), (.nopImpFA, 0xFA), (.jam02, 0x02), (.jam12, 0x12), (.jam22, 0x22), (.jam32, 0x32),
      (.jam42, 0x42), (.jam52, 0x52), (.jam62, 0x62), (.jam72, 0x72), (.jam92, 0x92), (.jamB2, 0xB2),
      (.jamD2, 0xD2), (.jamF2, 0xF2)] : List (Instr × Byte)) →
    RegisterForm ⟨i, op, 2, false⟩ NoEffect)
  ∧ ImmediateForms .nop (fun _ => NoEffect)
  ∧ (∀ (b : Byte) (s : State),
      ((encode (.aneImm b)).head? = some 0x8B ∧ exec (.aneImm b) s = .next { s with cycles := 2 })
        ∧ ((encode (.lxaImm b)).head? = some 0xAB ∧ exec (.lxaImm b) s = .next { s with cycles := 2 }))
  ∧ ReadingForms .nop (fun _ => NoEffect)
  ∧ ∀ (a : Addr) (b : Byte) (s : State),
      ((encode (.shaIzy b)).head? = some 0x93 ∧ exec (.shaIzy b) s = .next { s with cycles := 6 })
        ∧ ((encode (.shaAby a)).head? = some 0x9F ∧ exec (.shaAby a) s = .next { s with cycles := 5 })
        ∧ ((encode (.shyAbx a)).head? = some 0x9C ∧ exec (.shyAbx a) s = .next { s with cycles := 5 })
        ∧ ((encode (.shxAby a)).head? = some 0x9E ∧ exec (.shxAby a) s = .next { s with cycles := 5 })
        ∧ ((encode (.tasAby a)).head? = some 0x9B ∧ exec (.tasAby a) s = .next { s with cycles := 5 })

/-! # Undocumented combinations -/

/-- R245 to R248: SLO, RLA, SRE and RRA: the shift of the memory byte, written back once, then the accumulator
operation on the byte written; every form. -/
def Obligations.ShiftAndAccumulate : Prop :=
  ModifyingForms .slo ShiftsLeft (fun m r c => Combines (m.getLsbD 7) (c.a ||| r) c)
    ∧ ModifyingForms .rla RotatesLeft (fun m r c => Combines (m.getLsbD 7) (c.a &&& r) c)
    ∧ ModifyingForms .sre ShiftsRight (fun m r c => Combines (m.getLsbD 0) (c.a ^^^ r) c)
    ∧ ModifyingForms .rra RotatesRight AddsRotated

/-- R243, R244: DCP and ISC: the count of the memory byte, written back once, then the compare or the
subtraction with the byte written; every form. -/
def Obligations.CountAndCombine : Prop :=
  ModifyingForms .dcp CountsDown (fun _ r c => Compares c.a r c)
    ∧ ModifyingForms .isc CountsUp (fun _ r c => Subtracts r c)

/-- R249 to R252: ANC, ALR, ARR and AXS. -/
def Obligations.ImmediateCombinations : Prop :=
  ∀ (b : Byte) (s : State),
    (∀ (i : Instr) (op : Byte), (i, op) ∈ ([(.ancImm0B b, 0x0B), (.ancImm2B b, 0x2B)] : List (Instr × Byte)) →
      (encode i).head? = some op ∧ ∃ t p, exec i s = .next t
        ∧ SetsCNZ ((s.cpu.a &&& b).getLsbD 7) (s.cpu.a &&& b) s.cpu.p p
        ∧ t = { s with cpu := { s.cpu with a := s.cpu.a &&& b, p := p }, cycles := 2 })
    ∧ ((encode (.alrImm b)).head? = some 0x4B ∧ ∃ t r p, exec (.alrImm b) s = .next t
        ∧ ShiftsRight (s.cpu.a &&& b) s.cpu.p r ∧ SetsCNZ ((s.cpu.a &&& b).getLsbD 0) r s.cpu.p p
        ∧ t = { s with cpu := { s.cpu with a := r, p := p }, cycles := 2 })
    ∧ ((encode (.arrImm b)).head? = some 0x6B ∧ ∃ t r p, exec (.arrImm b) s = .next t
        ∧ RotatesRight (s.cpu.a &&& b) s.cpu.p r
        ∧ SetsCVNZ (r.getLsbD 6) (r.getLsbD 6 ^^ r.getLsbD 5) r s.cpu.p p
        ∧ t = { s with cpu := { s.cpu with a := r, p := p }, cycles := 2 })
    ∧ ((encode (.axsImm b)).head? = some 0xCB ∧ ∃ t r p, exec (.axsImm b) s = .next t
        ∧ (r.toNat : Int) = (((s.cpu.a &&& s.cpu.x).toNat : Int) - b.toNat) % 256
        ∧ SetsCNZ (decide (b.toNat ≤ (s.cpu.a &&& s.cpu.x).toNat)) r s.cpu.p p
        ∧ t = { s with cpu := { s.cpu with x := r, p := p }, cycles := 2 })

/-! # The bus -/

/-- R42, R45, R46, R47, R50, R55, R57: what each range answers to a read, and the side effect of the read; the
register window repeats every 8 addresses (`StatusReadClearsVblankAndLatch` and `DataReadAdvancesV` give the
values of registers 2 and 7). Of the external window only an answer the environment has listed is stated; the
answer when none is listed is a free value (notes/assumptions/1.md). -/
def Obligations.BusReadMap : Prop :=
  ∀ (a : Addr) (s : State),
    (a.toNat < 0x2000 → busRead a s = (readCell s.ram (a.toNat % 0x800), s))
      ∧ (0x2000 ≤ a.toNat → a.toNat < 0x4000 →
          busRead a s = busRead (BitVec.ofNat 16 (0x2000 + a.toNat % 8)) s)
      ∧ (0x2000 ≤ a.toNat → a.toNat < 0x4000 → a.toNat % 8 ∈ [0, 1, 3, 5, 6] →
          busRead a s = (s.cfg.ppuOpenBus, s))
      ∧ (0x2000 ≤ a.toNat → a.toNat < 0x4000 → a.toNat % 8 = 2 →
          (busRead a s).2 = { s with ppu := { s.ppu with vblank := false, w := false } })
      ∧ (0x2000 ≤ a.toNat → a.toNat < 0x4000 → a.toNat % 8 = 4 →
          busRead a s = (readCell s.ppu.oam s.ppu.oamAddr.toNat, s))
      ∧ (0x4000 ≤ a.toNat → a.toNat < 0x4020 →
          (busRead a s).2 = { s with extIn := s.extIn.tail, extReads := s.extReads + 1 }
            ∧ ∀ b, s.extIn.head? = some b → (busRead a s).1 = b)
      ∧ (0x4020 ≤ a.toNat → a.toNat < 0x8000 → busRead a s = (s.cfg.openBus, s))
      ∧ (0x8000 ≤ a.toNat →
          busRead a s = (readCell s.cart.prg
            ((a.toNat - 0x8000) % (match s.cart.prgBanks with | .one => 0x4000 | .two => 0x8000)), s))

/-- R43, R46, R47, R52, R56, R57, R334: the register window repeats every 8 addresses; a RAM write is seen at every mirror and nowhere else; writes to program
memory, to 0x4020-0x7FFF and to register 2 change nothing; a write of the external window is an event. -/
def Obligations.BusWriteMap : Prop :=
  ∀ (a : Addr) (v : Byte) (s : State), Memory.wf s.ram = true →
    (a.toNat < 0x2000 → ∃ m, busWrite a v s = { s with ram := m } ∧ Memory.wf m = true
        ∧ ∀ k, readCell m k = if k = a.toNat % 0x800 then v else readCell s.ram k)
      ∧ (0x2000 ≤ a.toNat → a.toNat < 0x4000 →
          busWrite a v s = busWrite (BitVec.ofNat 16 (0x2000 + a.toNat % 8)) v s)
      ∧ (0x2000 ≤ a.toNat → a.toNat < 0x4000 → a.toNat % 8 = 2 → busWrite a v s = s)
      ∧ (0x4000 ≤ a.toNat → a.toNat < 0x4020 → a.toNat ≠ 0x4014 →
          busWrite a v s = { s with events := s.events ++ [.extWrite a v] })
      ∧ (0x4020 ≤ a.toNat → busWrite a v s = s)

/-- R60, R61, R62: a write of page `v` to 0x4014 with `v` a RAM page copies its 256 bytes in order into the
sprite memory from `oam_addr` on, wrapping, and changes nothing else but the cycle count; a transfer from any
page, a device's window included, leaves RAM, the registers, the cartridge and `oam_addr` as they were; it
costs 513 or 514 cycles by the parity of `cyc`. -/
def Obligations.DmaCopiesAPage : Prop :=
  (∀ (v : Byte) (s : State), State.inv s = true → v.toNat < 0x20 →
    ∃ m, busWrite 0x4014 v s = { s with
        ppu := { s.ppu with oam := m }
        cycles := s.cycles + (if s.cyc % 2 = 0 then 513 else 514) }
      ∧ sized 256 m = true
      ∧ ∀ i, i < 256 →
          readCell m ((s.ppu.oamAddr.toNat + i) % 256) = readCell s.ram ((256 * v.toNat + i) % 0x800))
  ∧ ∀ (v : Byte) (s : State),
      (busWrite 0x4014 v s).cpu = s.cpu ∧ (busWrite 0x4014 v s).ram = s.ram
        ∧ (busWrite 0x4014 v s).cart = s.cart ∧ (busWrite 0x4014 v s).ppu.oamAddr = s.ppu.oamAddr
        ∧ (busWrite 0x4014 v s).cycles = s.cycles + (if s.cyc % 2 = 0 then 513 else 514)

/-! # The picture unit's registers and memory -/

/-- R326, R336: a status read returns the three flags over the open-bus bits, clears the vertical-blank flag and
the toggle latch, and leaves the other two flags; the NMI line is the vertical-blank flag and bit 7 of the
control register, so it falls at the read and follows a write of the control register. -/
def Obligations.StatusReadClearsVblankAndLatch : Prop :=
  ∀ s : State,
    (∀ k, (busRead 0x2002 s).1.getLsbD k =
        if k = 7 then s.ppu.vblank else if k = 6 then s.ppu.spr0 else if k = 5 then s.ppu.ovf
        else s.cfg.ppuOpenBus.getLsbD k)
      ∧ (busRead 0x2002 s).2 = { s with ppu := { s.ppu with vblank := false, w := false } }
      ∧ nmiLine s.ppu = (s.ppu.vblank && s.ppu.ctrl.getLsbD 7)
      ∧ nmiLine (busRead 0x2002 s).2.ppu = false
      ∧ ∀ d : Byte, nmiLine (busWrite 0x2000 d s).ppu = (s.ppu.vblank && decide (0x80 ≤ d.toNat))

/-- R323, R327, R328, R329: writes of the control, mask, sprite-memory address and sprite-memory data registers. -/
def Obligations.ControlMaskAndOamWrites : Prop :=
  ∀ (d : Byte) (s : State),
    (∃ t', busWrite 0x2000 d s = { s with ppu := { s.ppu with ctrl := d, t := t' } }
        ∧ ∀ k, t'.getLsbD k = if k = 10 then d.getLsbD 0 else if k = 11 then d.getLsbD 1 else s.ppu.t.getLsbD k)
      ∧ busWrite 0x2001 d s = { s with ppu := { s.ppu with mask := d } }
      ∧ busWrite 0x2003 d s = { s with ppu := { s.ppu with oamAddr := d } }
      ∧ (sized 256 s.ppu.oam = true → ∃ m,
          busWrite 0x2004 d s = { s with ppu := { s.ppu with oam := m, oamAddr := s.ppu.oamAddr + 1 } }
            ∧ sized 256 m = true
            ∧ ∀ k, readCell m k = if k = s.ppu.oamAddr.toNat then d else readCell s.ppu.oam k)

/-- R330: the two writes of the scroll register, by the toggle latch. -/
def Obligations.ScrollWritesFillT : Prop :=
  ∀ (d : Byte) (s : State),
    (s.ppu.w = false → ∃ t', busWrite 0x2005 d s =
        { s with ppu := { s.ppu with t := t', x := d.extractLsb' 0 3, w := true } }
        ∧ ∀ k, t'.getLsbD k = if k < 5 then d.getLsbD (k + 3) else s.ppu.t.getLsbD k)
      ∧ (s.ppu.w = true → ∃ t', busWrite 0x2005 d s = { s with ppu := { s.ppu with t := t', w := false } }
        ∧ ∀ k, t'.getLsbD k =
            if 12 ≤ k ∧ k < 15 then d.getLsbD (k - 12)
            else if 5 ≤ k ∧ k < 10 then d.getLsbD (k - 2) else s.ppu.t.getLsbD k)

/-- R331: the two writes of the address register, by the toggle latch: the high byte without its top two bits,
then the low byte, at which v takes the whole of t; a high then a low write set v to the 14-bit combination,
and the latch is clear again. -/
def Obligations.AddressPairSetsV : Prop :=
  (∀ (d : Byte) (s : State),
    (s.ppu.w = false → ∃ t', busWrite 0x2006 d s = { s with ppu := { s.ppu with t := t', w := true } }
        ∧ ∀ k, t'.getLsbD k =
            if 8 ≤ k ∧ k < 14 then d.getLsbD (k - 8) else if k = 14 then false else s.ppu.t.getLsbD k)
      ∧ (s.ppu.w = true → ∃ t', busWrite 0x2006 d s =
          { s with ppu := { s.ppu with t := t', v := t', w := false } }
        ∧ ∀ k, t'.getLsbD k = if k < 8 then d.getLsbD k else s.ppu.t.getLsbD k))
  ∧ ∀ (hi lo : Byte) (s : State), s.ppu.w = false →
    ∃ v', busWrite 0x2006 lo (busWrite 0x2006 hi s) = { s with ppu := { s.ppu with t := v', v := v' } }
      ∧ v'.toNat = hi.toNat % 64 * 256 + lo.toNat

/-- R332, R335: a data read returns the addressed byte at once, or through the read buffer when the parameter
says so, palette bytes always at once; v moves by 1 or 32 mod 32768. -/
def Obligations.DataReadAdvancesV : Prop :=
  ∀ s : State, ∃ v' : BitVec 15,
    v'.toNat = (s.ppu.v.toNat + (if s.ppu.ctrl.getLsbD 2 then 32 else 1)) % 32768
      ∧ (s.cfg.dataReadBuffered = false →
          busRead 0x2007 s = (ppuRead s.cart s.ppu (s.ppu.v.setWidth 14), { s with ppu := { s.ppu with v := v' } }))
      ∧ (s.cfg.dataReadBuffered = true → s.ppu.v.toNat % 0x4000 < 0x3F00 →
          busRead 0x2007 s = (s.ppu.readBuffer, { s with ppu := { s.ppu with
            v := v', readBuffer := ppuRead s.cart s.ppu (s.ppu.v.setWidth 14) } }))
      ∧ (s.cfg.dataReadBuffered = true → 0x3F00 ≤ s.ppu.v.toNat % 0x4000 →
          busRead 0x2007 s = (ppuRead s.cart s.ppu (s.ppu.v.setWidth 14), { s with ppu := { s.ppu with
            v := v', readBuffer := ppuRead s.cart s.ppu (s.ppu.v.setWidth 14 - 0x1000#14) } }))

/-- R333, R317, R318, R319, R321, R58: a data write changes exactly the cell v addresses, at all of its
aliases under the cartridge's mirroring, and nothing at all of a read-only pattern memory; v moves on. -/
def Obligations.DataWriteChangesOneCell : Prop :=
  ∀ (d : Byte) (s : State) (b : VAddr), State.inv s = true →
    ∃ t, busWrite 0x2007 d s = t
      ∧ (sameCell s.cart.mirroring (s.ppu.v.setWidth 14) b →
          (s.ppu.v.toNat % 0x4000 < 0x2000 → s.cart.chrIsRam = true) → ppuRead t.cart t.ppu b = d)
      ∧ (¬ sameCell s.cart.mirroring (s.ppu.v.setWidth 14) b →
          ppuRead t.cart t.ppu b = ppuRead s.cart s.ppu b)
      ∧ (s.ppu.v.toNat % 0x4000 < 0x2000 → s.cart.chrIsRam = false → t.cart = s.cart ∧
          ppuRead t.cart t.ppu b = ppuRead s.cart s.ppu b)
      ∧ t = { s with
          cart := { s.cart with chr := t.cart.chr }
          ppu := { s.ppu with nt := t.ppu.nt, pal := t.ppu.pal, v := t.ppu.v } }
      ∧ t.ppu.v.toNat = (s.ppu.v.toNat + (if s.ppu.ctrl.getLsbD 2 then 32 else 1)) % 32768

/-! # The picture unit's dots -/

/-- R345, R346, R372: scanline 241 dot 1 sets the vertical-blank flag and hands the frame over; scanline 261 dot
1 clears the three flags; no other dot touches the vertical-blank flag; the NMI line follows it where the
control register enables it. The frame handed over is the frame buffer as the dot begins (the model's reading of
R372: notes/assumptions/18.md), which that dot does not write. -/
def Obligations.VblankFlagEdges : Prop :=
  ∀ (c : Cartridge) (p : Ppu),
    ((ppuTick c p).vblank =
        if p.scanline = 241 ∧ p.dot = 1 then true
        else if p.scanline = 261 ∧ p.dot = 1 then false else p.vblank)
      ∧ nmiLine (ppuTick c p) = ((ppuTick c p).vblank && p.ctrl.getLsbD 7)
      ∧ (p.scanline = 261 → p.dot = 1 → (ppuTick c p).spr0 = false ∧ (ppuTick c p).ovf = false)
      ∧ (p.scanline = 241 → p.dot = 1 → frameEvents c 1 p = [.frameReady p.fb] ∧ (ppuTick c p).fb = p.fb)
      ∧ (¬ (p.scanline = 241 ∧ p.dot = 1) → frameEvents c 1 p = [])

/-- R341, R342, R343: from the first dot of a frame, 89342 dots later, or 89341 on an odd frame with rendering
enabled, the position is the first dot of the next frame: the parity has toggled, the count is one more,
and the frame was handed over exactly once. -/
def Obligations.FrameIs89342Dots : Prop :=
  ∀ (c : Cartridge) (p : Ppu) (n : Nat), p.scanline = 0 → p.dot = 0 →
    n = (if p.oddFrame && (p.mask.getLsbD 3 || p.mask.getLsbD 4) then 89341 else 89342) →
    (runDots c n p).scanline = 0 ∧ (runDots c n p).dot = 0
      ∧ (runDots c n p).oddFrame = !p.oddFrame ∧ (runDots c n p).frame = p.frame + 1
      ∧ (frameEvents c n p).length = 1

/-- R344, R355: on scanlines 240 to 260, and on every line with rendering disabled, a dot leaves v, the shifters,
the latches and every memory but the frame buffer as they were; on the idle lines the frame buffer too, and the
sprite-0 and overflow flags. The selected sprites stay too, but that dot 257 of a render line may empty the list,
and on the pre-render line does: with rendering disabled that is the model's choice between R355 and R361's
procedure (notes/assumptions/8.md). -/
def Obligations.IdleDotsLeaveTheMemories : Prop :=
  ∀ (c : Cartridge) (p : Ppu),
    ((240 ≤ p.scanline ∧ p.scanline ≤ 260) ∨ (p.mask.getLsbD 3 = false ∧ p.mask.getLsbD 4 = false)) →
    ∃ q : Ppu, ppuTick c p = { p with
        vblank := q.vblank, spr0 := q.spr0, ovf := q.ovf, scanline := q.scanline, dot := q.dot
        oddFrame := q.oddFrame, frame := q.frame, fb := q.fb, lineSprites := q.lineSprites }
      ∧ (240 ≤ p.scanline → p.scanline ≤ 260 → q.fb = p.fb ∧ q.spr0 = p.spr0 ∧ q.ovf = p.ovf)
      ∧ (q.lineSprites = p.lineSprites
          ∨ (q.lineSprites = [] ∧ p.dot = 257 ∧ (p.scanline ≤ 239 ∨ p.scanline = 261)))
      ∧ (p.scanline = 261 → p.dot = 257 → q.lineSprites = [])

/-- R350, R351: the horizontal and vertical steps of v, by its fields (coarse-X wraps into bit 10; fine-Y wraps
into coarse-Y, which wraps into bit 11 after row 29 and without it after row 31), and the dots of a render line
at which v takes them or takes fields of t. -/
def Obligations.ScrollSteps : Prop :=
  (∀ v : BitVec 15,
    (v.toNat % 32 < 31 → (incCoarseX v).toNat = v.toNat + 1)
        ∧ (v.toNat % 32 = 31 →
            (incCoarseX v).toNat = if v.getLsbD 10 then v.toNat - 31 - 0x400 else v.toNat - 31 + 0x400)
        ∧ (v.toNat / 0x1000 < 7 → (incY v).toNat = v.toNat + 0x1000)
        ∧ (v.toNat / 0x1000 = 7 → v.toNat / 32 % 32 = 29 →
            (incY v).toNat =
              if v.getLsbD 11 then v.toNat - 0x7000 - 29 * 32 - 0x800 else v.toNat - 0x7000 - 29 * 32 + 0x800)
        ∧ (v.toNat / 0x1000 = 7 → v.toNat / 32 % 32 = 31 → (incY v).toNat = v.toNat - 0x7000 - 31 * 32)
        ∧ (v.toNat / 0x1000 = 7 → v.toNat / 32 % 32 ≠ 29 → v.toNat / 32 % 32 ≠ 31 →
            (incY v).toNat = v.toNat - 0x7000 + 32))
  ∧ ∀ (c : Cartridge) (p : Ppu), (p.mask.getLsbD 3 || p.mask.getLsbD 4) = true →
    (p.scanline ≤ 239 ∨ p.scanline = 261) →
    (((1 ≤ p.dot ∧ p.dot < 256) ∨ (321 ≤ p.dot ∧ p.dot ≤ 336)) → p.dot % 8 = 0 →
        (ppuTick c p).v = incCoarseX p.v)
      ∧ (p.dot = 256 → (ppuTick c p).v = incY (incCoarseX p.v))
      ∧ (p.dot = 257 → ∀ k, (ppuTick c p).v.getLsbD k
          = if k < 5 ∨ k = 10 then p.t.getLsbD k else p.v.getLsbD k)
      ∧ (p.scanline = 261 → 280 ≤ p.dot → p.dot ≤ 304 → ∀ k, (ppuTick c p).v.getLsbD k
          = if k < 5 ∨ k = 10 then p.v.getLsbD k else p.t.getLsbD k)
      ∧ (p.dot ≠ 256 → p.dot ≠ 257 → ¬ (p.scanline = 261 ∧ 280 ≤ p.dot ∧ p.dot ≤ 304) →
          ¬ (((1 ≤ p.dot ∧ p.dot < 256) ∨ (321 ≤ p.dot ∧ p.dot ≤ 336)) ∧ p.dot % 8 = 0) →
          (ppuTick c p).v = p.v)

/-- R351, R352, R353, R363: the fetch addresses in integers, from the fields of v, the tile index and the control
register; what each dot of a render line fetches into the latches; and what it does to the four shifters:
one place to the left, and the low byte reloaded from the latches. -/
def Obligations.FetchAddressesAndShifters : Prop :=
  (∀ p : Ppu,
    (tileAddr p.v).toNat = 0x2000 + p.v.toNat % 0x1000
      ∧ (attrAddr p.v).toNat
        = 0x23C0 + p.v.toNat / 0x400 % 4 * 0x400 + p.v.toNat / 32 % 32 / 4 * 8 + p.v.toNat % 32 / 4
      ∧ attrShift p.v = p.v.toNat / 32 % 32 / 2 % 2 * 4 + p.v.toNat % 32 / 2 % 2 * 2
      ∧ (patAddr p).toNat
        = (if p.ctrl.getLsbD 4 then 0x1000 else 0) + 16 * p.ntLatch.toNat + p.v.toNat / 0x1000
      ∧ (p.ctrl.getLsbD 5 = false → ∀ (tile : Byte) (row : Nat), row < 8 →
          (spriteAddr p tile row).toNat = (if p.ctrl.getLsbD 3 then 0x1000 else 0) + 16 * tile.toNat + row)
      ∧ (p.ctrl.getLsbD 5 = true → ∀ (tile : Byte) (row : Nat), row < 16 →
          (spriteAddr p tile row).toNat
            = tile.toNat % 2 * 0x1000 + 16 * (tile.toNat / 2 * 2 + row / 8) + row % 8))
  ∧ ∀ (c : Cartridge) (p : Ppu), (p.mask.getLsbD 3 || p.mask.getLsbD 4) = true →
    (p.scanline ≤ 239 ∨ p.scanline = 261) →
    (fetches p.dot → p.dot % 8 = 1 → (ppuTick c p).ntLatch = ppuRead c p (tileAddr p.v))
      ∧ (fetches p.dot → p.dot % 8 = 3 →
          (ppuTick c p).atLatch.toNat = (ppuRead c p (attrAddr p.v)).toNat / 2 ^ attrShift p.v % 4)
      ∧ (fetches p.dot → p.dot % 8 = 5 → (ppuTick c p).patLoLatch = ppuRead c p (patAddr p))
      ∧ (fetches p.dot → p.dot % 8 = 7 → (ppuTick c p).patHiLatch = ppuRead c p (patAddr p + 8))
      ∧ (¬ (fetches p.dot ∧ p.dot % 8 = 1) → (ppuTick c p).ntLatch = p.ntLatch)
      ∧ (¬ (fetches p.dot ∧ p.dot % 8 = 3) → (ppuTick c p).atLatch = p.atLatch)
      ∧ (¬ (fetches p.dot ∧ p.dot % 8 = 5) → (ppuTick c p).patLoLatch = p.patLoLatch)
      ∧ (¬ (fetches p.dot ∧ p.dot % 8 = 7) → (ppuTick c p).patHiLatch = p.patHiLatch)
      ∧ (ppuTick c p).bgLo.toNat = shiftedAt p.dot p.bgLo.toNat p.patLoLatch.toNat
      ∧ (ppuTick c p).bgHi.toNat = shiftedAt p.dot p.bgHi.toNat p.patHiLatch.toNat
      ∧ (ppuTick c p).atLo.toNat = shiftedAt p.dot p.atLo.toNat (if p.atLatch.getLsbD 0 then 255 else 0)
      ∧ (ppuTick c p).atHi.toNat = shiftedAt p.dot p.atHi.toNat (if p.atLatch.getLsbD 1 then 255 else 0)

/-- R361, R362, R363: with rendering enabled, evaluation on a visible line selects the first eight sprites in
index order that cover the next line, fetches each one's row, and sets the overflow flag exactly when there is
a ninth; it is done at dot 257. On the pre-render line the list is emptied. On a visible line with rendering
disabled nothing is selected: the list stays (R355) or is emptied (R361). With rendering disabled, what becomes of
the list at dot 257 of either kind of line is the model's choice between R355 and R361's procedure
(notes/assumptions/8.md). -/
def Obligations.SpriteEvaluationSelectsEight : Prop :=
  ∀ (c : Cartridge) (p : Ppu), p.scanline ≤ 239 ∨ p.scanline = 261 →
    (p.dot ≠ 257 → (ppuTick c p).lineSprites = p.lineSprites)
      ∧ (p.dot = 257 → p.scanline = 261 → (ppuTick c p).lineSprites = [] ∧ (ppuTick c p).ovf = p.ovf)
      ∧ (p.dot = 257 → p.scanline ≤ 239 → (p.mask.getLsbD 3 || p.mask.getLsbD 4) = false →
          ((ppuTick c p).lineSprites = p.lineSprites ∨ (ppuTick c p).lineSprites = [])
            ∧ (ppuTick c p).ovf = p.ovf)
      ∧ (p.dot = 257 → p.scanline ≤ 239 → (p.mask.getLsbD 3 || p.mask.getLsbD 4) = true →
          ∃ sel : List Nat, sel.Pairwise (· < ·)
            ∧ (∀ n, n ∈ sel ↔ n < 64 ∧ coversNextLine p n)
            ∧ (ppuTick c p).lineSprites.length = min 8 sel.length
            ∧ (∀ (i n : Nat) (r : LineSprite), sel[i]? = some n → (ppuTick c p).lineSprites[i]? = some r → IsRecordOf c p n r)
            ∧ (ppuTick c p).ovf = (p.ovf || decide (9 ≤ sel.length)))

/-- R354, R366, R367, R368, R371: the background pixel of a column, from bit 15 - x of the shifters; the pixel a
dot of a visible line puts into the frame buffer, by the priority of the two layers; its colour; the sprite-0
hit. The pixel is the one the shifters give after the dot's own shift and reload, and no other dot writes the
frame buffer. -/
def Obligations.PixelPriority : Prop :=
  (∀ (p : Ppu) (px : Nat),
    ((p.mask.getLsbD 3 = false ∨ (px < 8 ∧ p.mask.getLsbD 1 = false)) → bgPixel p px = (0, 0))
      ∧ (p.mask.getLsbD 3 = true → 8 ≤ px ∨ p.mask.getLsbD 1 = true →
          (bgPixel p px).1.getLsbD 0 = p.bgLo.getLsbD (15 - p.x.toNat)
            ∧ (bgPixel p px).1.getLsbD 1 = p.bgHi.getLsbD (15 - p.x.toNat)
            ∧ (bgPixel p px).2.getLsbD 0 = p.atLo.getLsbD (15 - p.x.toNat)
            ∧ (bgPixel p px).2.getLsbD 1 = p.atHi.getLsbD (15 - p.x.toNat)))
  ∧ (∀ (p : Ppu) (col : BitVec 5) (k : Nat), k < 6 →
      (colour p col).getLsbD k
        = ((readCell p.pal (if col.toNat % 4 = 0 then col.toNat % 16 else col.toNat)).getLsbD k
          && (decide (4 ≤ k) || !p.mask.getLsbD 0)))
  ∧ (∀ p : Ppu, 1 ≤ p.dot → sized 61440 p.fb = true →
    ∃ (bg : BitVec 2 × BitVec 2) (sp : SpriteDot) (col : BitVec 5),
      bg = bgPixel p (p.dot - 1) ∧ sp = spritePixel p (p.dot - 1)
        ∧ col = (if bg.1 = 0 ∧ sp.pix = 0 then 0
            else if sp.pix ≠ 0 ∧ (bg.1 = 0 ∨ sp.behind = false) then sp.pal ++ sp.pix
            else 0#1 ++ bg.2 ++ bg.1)
        ∧ (∀ k, readCell (emitPixel p).fb k =
            if k = 256 * p.scanline + (p.dot - 1) then colour p col else readCell p.fb k)
        ∧ (emitPixel p).spr0 = (p.spr0 || decide (bg.1 ≠ 0 ∧ sp.pix ≠ 0 ∧ sp.isZero = true ∧ p.dot ≠ 256))
        ∧ emitPixel p = { p with spr0 := (emitPixel p).spr0, fb := (emitPixel p).fb })
  ∧ ∀ (c : Cartridge) (p : Ppu),
    (p.scanline ≤ 239 → 1 ≤ p.dot → p.dot ≤ 256 →
      ∃ q : Ppu, q = (if p.mask.getLsbD 3 || p.mask.getLsbD 4 then backgroundDot c p else p)
        ∧ (ppuTick c p).fb = (emitPixel q).fb ∧ (ppuTick c p).spr0 = (emitPixel q).spr0)
      ∧ (¬ (p.scanline ≤ 239 ∧ 1 ≤ p.dot ∧ p.dot ≤ 256) → (ppuTick c p).fb = p.fb)

/-- R364: a sprite's pixel at each of its eight columns; among the selected sprites the first in list order with
an opaque pixel at the column wins, and a transparent one hides nothing. -/
def Obligations.FirstOpaqueSpriteWins : Prop :=
  (∀ (s : LineSprite) (px : Nat),
    (px < s.x.toNat ∨ s.x.toNat + 7 < px → lineSpritePix s px = 0)
      ∧ ∀ o, o ≤ 7 → px = s.x.toNat + o →
        (lineSpritePix s px).getLsbD 0 = s.lo.getLsbD (7 - o)
          ∧ (lineSpritePix s px).getLsbD 1 = s.hi.getLsbD (7 - o))
  ∧ ∀ (p : Ppu) (px : Nat),
    (p.mask.getLsbD 4 = false ∨ (px < 8 ∧ p.mask.getLsbD 2 = false) → (spritePixel p px).pix = 0)
      ∧ (p.mask.getLsbD 4 = true → 8 ≤ px ∨ p.mask.getLsbD 2 = true →
          ((∀ s ∈ p.lineSprites, lineSpritePix s px = 0) → spritePixel p px = noSprite)
          ∧ ∀ (before : List LineSprite) (s : LineSprite) (after : List LineSprite),
              p.lineSprites = before ++ s :: after → (∀ r ∈ before, lineSpritePix r px = 0) →
              lineSpritePix s px ≠ 0 →
              (spritePixel p px).pix = lineSpritePix s px
                ∧ (spritePixel p px).pal.toNat = 4 + s.attr.toNat % 4
                ∧ (spritePixel p px).behind = s.attr.getLsbD 5
                ∧ (spritePixel p px).isZero = decide (s.index = 0))

/-! # Whole-machine rules -/

/-- R15, R26, R27, R28: the state right after reset is a good state. -/
def Obligations.InvariantHoldsAtReset : Prop := State.inv State.reset = true

/-- R15, R19, R26 to R29: every step from a good state ends in a good state: P keeps the form NV10DIZC, every
memory keeps its canonical form and its size, the position stays one of the 262 by 341, at most eight
sprites are selected. -/
def Obligations.StepKeepsTheInvariant : Prop :=
  ∀ s t : State, State.inv s = true → step s = .next t → State.inv t = true

/-- R6, R7, R30, R58: no step changes the program memory, the wiring, the parameters, or a read-only pattern
memory. -/
def Obligations.StepKeepsTheFixedPart : Prop := ∀ s t : State, step s = .next t → FixedPart s t

/-- R18, R390: a step without a reset adds the cycles it returns to `cyc`, emits that many audio ticks, and
returns at least two. -/
def Obligations.CycGrowsByTheStepsCycles : Prop :=
  ∀ s t : State, noReset s → step s = .next t →
    t.cyc = s.cyc + t.cycles ∧ t.events.count .audioTick = t.cycles ∧ 2 ≤ t.cycles
end

