-- ==== Sys2Proof/Laws/Flags.lean ====
section
/-! SUPPORT. What each flag computation leaves in each bit of P. -/

namespace Sys2Proof.Machine

/-- Bit `j` of a status byte after flag `i` is set: the new value at `i`, the old one elsewhere. -/
@[simp] theorem getLsbD_setFlag (i j : Nat) (b : Bool) (p : Byte) (hi : i < 8) :
    (setFlag i b p).getLsbD j = if j = i then b else p.getLsbD j := by
  have one : (1#8 <<< i).getLsbD j = decide (j = i) := by
    by_cases hj : j < 8
    · simp only [BitVec.getLsbD_shiftLeft, hj, decide_true, Bool.true_and, BitVec.getLsbD_one]
      by_cases h : j = i
      · subst h; simp
      · by_cases h2 : j < i
        · simp [h2, h]
        · simp [h2, h]; omega
    · have : j ≠ i := by omega
      simp [this, BitVec.getLsbD_of_ge _ _ (by omega : 8 ≤ j)]
  unfold setFlag
  cases b
  · by_cases hj : j < 8
    · simp only [Bool.false_eq_true, if_false, BitVec.getLsbD_and, BitVec.getLsbD_not, one, hj,
        decide_true, Bool.true_and]
      by_cases h : j = i <;> simp [h]
    · have : j ≠ i := by omega
      rw [if_neg this]
      simp [BitVec.getLsbD_of_ge _ _ (by omega : 8 ≤ j)]
  · simp only [if_true, BitVec.getLsbD_or, one]
    by_cases h : j = i <;> simp [h]

theorem flag_setFlag (i j : Nat) (b : Bool) (p : Byte) (hi : i < 8) :
    flag j (setFlag i b p) = if j = i then b else flag j p := by
  simp [flag, hi]

/-- `SetNZ` writes N and Z and nothing else (R122). -/
theorem getLsbD_setNZ (v p : Byte) (j : Nat) :
    (setNZ v p).getLsbD j =
      if j = 7 then v.getLsbD 7 else if j = 1 then v == 0 else p.getLsbD j := by
  simp [setNZ, bitN, bitZ]

/-- `PackP(b)` bit by bit: NV1bDIZC (R126). -/
theorem getLsbD_packP (b : Bool) (p : Byte) (j : Nat) :
    (packP b p).getLsbD j = if j = 5 then true else if j = 4 then b else p.getLsbD j := by
  have h8 : ∀ (b : Bool) (p : Byte) (j : Fin 8), (packP b p).getLsbD j =
      if j.val = 5 then true else if j.val = 4 then b else p.getLsbD j := by
    intro b p j
    have hj := j.isLt
    have e5 : (0x20 : Byte).getLsbD j = decide (j.val = 5) := by revert j; decide
    have e4 : (0x10 : Byte).getLsbD j = decide (j.val = 4) := by revert j; decide
    have eC : (0xCF : Byte).getLsbD j = !(decide (j.val = 4) || decide (j.val = 5)) := by
      revert j; decide
    cases b <;> simp only [packP, BitVec.getLsbD_or, BitVec.getLsbD_and, e5, e4, eC, if_true,
      Bool.false_eq_true, if_false] <;>
      by_cases h5 : j.val = 5 <;> by_cases h4 : j.val = 4 <;> simp_all
  by_cases hj : j < 8
  · exact h8 b p ⟨j, hj⟩
  · rw [BitVec.getLsbD_of_ge _ _ (by omega), if_neg (by omega), if_neg (by omega),
      BitVec.getLsbD_of_ge _ _ (by omega)]

/-- `UnpackP(v)` bit by bit: bits 4 and 5 of the popped byte are ignored (R127). -/
theorem getLsbD_unpackP (v : Byte) (j : Nat) :
    (unpackP v).getLsbD j = if j = 5 then true else if j = 4 then false else v.getLsbD j := by
  have e : unpackP v = packP false v := by simp [unpackP, packP]
  rw [e, getLsbD_packP]

theorem statusBits_setFlag {p : Byte} (i : Nat) (b : Bool) (h5 : p.getLsbD 5 = true)
    (h4 : p.getLsbD 4 = false) (hi : i < 4 ∨ 6 ≤ i) (hi8 : i < 8) :
    (setFlag i b p).getLsbD 5 = true ∧ (setFlag i b p).getLsbD 4 = false := by
  rw [getLsbD_setFlag _ _ _ _ hi8, getLsbD_setFlag _ _ _ _ hi8, if_neg (by omega), if_neg (by omega)]
  exact ⟨h5, h4⟩

/-- `AddCore`'s flags (R175). -/
theorem getLsbD_addFlags (a m p : Byte) (j : Nat) :
    (addFlags a m p).getLsbD j =
      if j = 7 then (addResult a m p).getLsbD 7 else if j = 1 then addResult a m p == 0
      else if j = 6 then addOverflow a m (addResult a m p)
      else if j = 0 then decide (addSum a m p > 255) else p.getLsbD j := by
  simp [addFlags, getLsbD_setNZ, bitV, bitC]

/-- `Compare`'s flags (R176). -/
theorem getLsbD_compareFlags (r m p : Byte) (j : Nat) :
    (compareFlags r m p).getLsbD j =
      if j = 7 then (r - m).getLsbD 7 else if j = 1 then r - m == 0
      else if j = 0 then decide (r.toNat ≥ m.toNat) else p.getLsbD j := by
  simp [compareFlags, getLsbD_setNZ, bitC]

/-- BIT's flags (R168). -/
theorem getLsbD_bitFlags (a m p : Byte) (j : Nat) :
    (bitFlags a m p).getLsbD j =
      if j = 6 then m.getLsbD 6 else if j = 7 then m.getLsbD 7
      else if j = 1 then a &&& m == 0 else p.getLsbD j := by
  simp [bitFlags, bitV, bitN, bitZ]

/-- A shift's flags (R194). -/
theorem getLsbD_shiftFlags (c : Bool) (r p : Byte) (j : Nat) :
    (shiftFlags c r p).getLsbD j =
      if j = 7 then r.getLsbD 7 else if j = 1 then r == 0 else if j = 0 then c else p.getLsbD j := by
  simp [shiftFlags, getLsbD_setNZ, bitC]

/-- ARR's flags (R251). -/
theorem getLsbD_arrFlags (r p : Byte) (j : Nat) :
    (arrFlags r p).getLsbD j =
      if j = 6 then r.getLsbD 6 ^^ r.getLsbD 5 else if j = 0 then r.getLsbD 6
      else if j = 7 then r.getLsbD 7 else if j = 1 then r == 0 else p.getLsbD j := by
  simp [arrFlags, getLsbD_setNZ, bitV, bitC]

end Sys2Proof.Machine
end

