-- ==== Sys2Proof/Laws/State.lean ====
section
/-! SUPPORT. One lemma per field and update of State: what a register write, a cycle charge or the start of
a step does to each field. -/

namespace Sys2Proof.Machine

@[simp] theorem setPc_cpu_a (v : Addr) (s : State) : (setPc v s).cpu.a = s.cpu.a := rfl
@[simp] theorem setPc_cpu_x (v : Addr) (s : State) : (setPc v s).cpu.x = s.cpu.x := rfl
@[simp] theorem setPc_cpu_y (v : Addr) (s : State) : (setPc v s).cpu.y = s.cpu.y := rfl
@[simp] theorem setPc_cpu_sp (v : Addr) (s : State) : (setPc v s).cpu.sp = s.cpu.sp := rfl
@[simp] theorem setPc_cpu_pc (v : Addr) (s : State) : (setPc v s).cpu.pc = v := rfl
@[simp] theorem setPc_cpu_p (v : Addr) (s : State) : (setPc v s).cpu.p = s.cpu.p := rfl
@[simp] theorem setPc_cpu_nmiPrev (v : Addr) (s : State) : (setPc v s).cpu.nmiPrev = s.cpu.nmiPrev := rfl
@[simp] theorem setPc_ram (v : Addr) (s : State) : (setPc v s).ram = s.ram := rfl
@[simp] theorem setPc_cyc (v : Addr) (s : State) : (setPc v s).cyc = s.cyc := rfl
@[simp] theorem setPc_ppu (v : Addr) (s : State) : (setPc v s).ppu = s.ppu := rfl
@[simp] theorem setPc_cart (v : Addr) (s : State) : (setPc v s).cart = s.cart := rfl
@[simp] theorem setPc_cfg (v : Addr) (s : State) : (setPc v s).cfg = s.cfg := rfl
@[simp] theorem setPc_cycles (v : Addr) (s : State) : (setPc v s).cycles = s.cycles := rfl
@[simp] theorem setPc_irqLine (v : Addr) (s : State) : (setPc v s).irqLine = s.irqLine := rfl
@[simp] theorem setPc_inputs (v : Addr) (s : State) : (setPc v s).inputs = s.inputs := rfl
@[simp] theorem setPc_extIn (v : Addr) (s : State) : (setPc v s).extIn = s.extIn := rfl
@[simp] theorem setPc_extReads (v : Addr) (s : State) : (setPc v s).extReads = s.extReads := rfl
@[simp] theorem setPc_events (v : Addr) (s : State) : (setPc v s).events = s.events := rfl

@[simp] theorem setSp_cpu_a (v : Byte) (s : State) : (setSp v s).cpu.a = s.cpu.a := rfl
@[simp] theorem setSp_cpu_x (v : Byte) (s : State) : (setSp v s).cpu.x = s.cpu.x := rfl
@[simp] theorem setSp_cpu_y (v : Byte) (s : State) : (setSp v s).cpu.y = s.cpu.y := rfl
@[simp] theorem setSp_cpu_sp (v : Byte) (s : State) : (setSp v s).cpu.sp = v := rfl
@[simp] theorem setSp_cpu_pc (v : Byte) (s : State) : (setSp v s).cpu.pc = s.cpu.pc := rfl
@[simp] theorem setSp_cpu_p (v : Byte) (s : State) : (setSp v s).cpu.p = s.cpu.p := rfl
@[simp] theorem setSp_cpu_nmiPrev (v : Byte) (s : State) : (setSp v s).cpu.nmiPrev = s.cpu.nmiPrev := rfl
@[simp] theorem setSp_ram (v : Byte) (s : State) : (setSp v s).ram = s.ram := rfl
@[simp] theorem setSp_cyc (v : Byte) (s : State) : (setSp v s).cyc = s.cyc := rfl
@[simp] theorem setSp_ppu (v : Byte) (s : State) : (setSp v s).ppu = s.ppu := rfl
@[simp] theorem setSp_cart (v : Byte) (s : State) : (setSp v s).cart = s.cart := rfl
@[simp] theorem setSp_cfg (v : Byte) (s : State) : (setSp v s).cfg = s.cfg := rfl
@[simp] theorem setSp_cycles (v : Byte) (s : State) : (setSp v s).cycles = s.cycles := rfl
@[simp] theorem setSp_irqLine (v : Byte) (s : State) : (setSp v s).irqLine = s.irqLine := rfl
@[simp] theorem setSp_inputs (v : Byte) (s : State) : (setSp v s).inputs = s.inputs := rfl
@[simp] theorem setSp_extIn (v : Byte) (s : State) : (setSp v s).extIn = s.extIn := rfl
@[simp] theorem setSp_extReads (v : Byte) (s : State) : (setSp v s).extReads = s.extReads := rfl
@[simp] theorem setSp_events (v : Byte) (s : State) : (setSp v s).events = s.events := rfl

@[simp] theorem setP_cpu_a (v : Byte) (s : State) : (setP v s).cpu.a = s.cpu.a := rfl
@[simp] theorem setP_cpu_x (v : Byte) (s : State) : (setP v s).cpu.x = s.cpu.x := rfl
@[simp] theorem setP_cpu_y (v : Byte) (s : State) : (setP v s).cpu.y = s.cpu.y := rfl
@[simp] theorem setP_cpu_sp (v : Byte) (s : State) : (setP v s).cpu.sp = s.cpu.sp := rfl
@[simp] theorem setP_cpu_pc (v : Byte) (s : State) : (setP v s).cpu.pc = s.cpu.pc := rfl
@[simp] theorem setP_cpu_p (v : Byte) (s : State) : (setP v s).cpu.p = v := rfl
@[simp] theorem setP_cpu_nmiPrev (v : Byte) (s : State) : (setP v s).cpu.nmiPrev = s.cpu.nmiPrev := rfl
@[simp] theorem setP_ram (v : Byte) (s : State) : (setP v s).ram = s.ram := rfl
@[simp] theorem setP_cyc (v : Byte) (s : State) : (setP v s).cyc = s.cyc := rfl
@[simp] theorem setP_ppu (v : Byte) (s : State) : (setP v s).ppu = s.ppu := rfl
@[simp] theorem setP_cart (v : Byte) (s : State) : (setP v s).cart = s.cart := rfl
@[simp] theorem setP_cfg (v : Byte) (s : State) : (setP v s).cfg = s.cfg := rfl
@[simp] theorem setP_cycles (v : Byte) (s : State) : (setP v s).cycles = s.cycles := rfl
@[simp] theorem setP_irqLine (v : Byte) (s : State) : (setP v s).irqLine = s.irqLine := rfl
@[simp] theorem setP_inputs (v : Byte) (s : State) : (setP v s).inputs = s.inputs := rfl
@[simp] theorem setP_extIn (v : Byte) (s : State) : (setP v s).extIn = s.extIn := rfl
@[simp] theorem setP_extReads (v : Byte) (s : State) : (setP v s).extReads = s.extReads := rfl
@[simp] theorem setP_events (v : Byte) (s : State) : (setP v s).events = s.events := rfl

@[simp] theorem setA_cpu_a (v : Byte) (s : State) : (setA v s).cpu.a = v := rfl
@[simp] theorem setA_cpu_x (v : Byte) (s : State) : (setA v s).cpu.x = s.cpu.x := rfl
@[simp] theorem setA_cpu_y (v : Byte) (s : State) : (setA v s).cpu.y = s.cpu.y := rfl
@[simp] theorem setA_cpu_sp (v : Byte) (s : State) : (setA v s).cpu.sp = s.cpu.sp := rfl
@[simp] theorem setA_cpu_pc (v : Byte) (s : State) : (setA v s).cpu.pc = s.cpu.pc := rfl
@[simp] theorem setA_cpu_p (v : Byte) (s : State) : (setA v s).cpu.p = s.cpu.p := rfl
@[simp] theorem setA_cpu_nmiPrev (v : Byte) (s : State) : (setA v s).cpu.nmiPrev = s.cpu.nmiPrev := rfl
@[simp] theorem setA_ram (v : Byte) (s : State) : (setA v s).ram = s.ram := rfl
@[simp] theorem setA_cyc (v : Byte) (s : State) : (setA v s).cyc = s.cyc := rfl
@[simp] theorem setA_ppu (v : Byte) (s : State) : (setA v s).ppu = s.ppu := rfl
@[simp] theorem setA_cart (v : Byte) (s : State) : (setA v s).cart = s.cart := rfl
@[simp] theorem setA_cfg (v : Byte) (s : State) : (setA v s).cfg = s.cfg := rfl
@[simp] theorem setA_cycles (v : Byte) (s : State) : (setA v s).cycles = s.cycles := rfl
@[simp] theorem setA_irqLine (v : Byte) (s : State) : (setA v s).irqLine = s.irqLine := rfl
@[simp] theorem setA_inputs (v : Byte) (s : State) : (setA v s).inputs = s.inputs := rfl
@[simp] theorem setA_extIn (v : Byte) (s : State) : (setA v s).extIn = s.extIn := rfl
@[simp] theorem setA_extReads (v : Byte) (s : State) : (setA v s).extReads = s.extReads := rfl
@[simp] theorem setA_events (v : Byte) (s : State) : (setA v s).events = s.events := rfl

@[simp] theorem setX_cpu_a (v : Byte) (s : State) : (setX v s).cpu.a = s.cpu.a := rfl
@[simp] theorem setX_cpu_x (v : Byte) (s : State) : (setX v s).cpu.x = v := rfl
@[simp] theorem setX_cpu_y (v : Byte) (s : State) : (setX v s).cpu.y = s.cpu.y := rfl
@[simp] theorem setX_cpu_sp (v : Byte) (s : State) : (setX v s).cpu.sp = s.cpu.sp := rfl
@[simp] theorem setX_cpu_pc (v : Byte) (s : State) : (setX v s).cpu.pc = s.cpu.pc := rfl
@[simp] theorem setX_cpu_p (v : Byte) (s : State) : (setX v s).cpu.p = s.cpu.p := rfl
@[simp] theorem setX_cpu_nmiPrev (v : Byte) (s : State) : (setX v s).cpu.nmiPrev = s.cpu.nmiPrev := rfl
@[simp] theorem setX_ram (v : Byte) (s : State) : (setX v s).ram = s.ram := rfl
@[simp] theorem setX_cyc (v : Byte) (s : State) : (setX v s).cyc = s.cyc := rfl
@[simp] theorem setX_ppu (v : Byte) (s : State) : (setX v s).ppu = s.ppu := rfl
@[simp] theorem setX_cart (v : Byte) (s : State) : (setX v s).cart = s.cart := rfl
@[simp] theorem setX_cfg (v : Byte) (s : State) : (setX v s).cfg = s.cfg := rfl
@[simp] theorem setX_cycles (v : Byte) (s : State) : (setX v s).cycles = s.cycles := rfl
@[simp] theorem setX_irqLine (v : Byte) (s : State) : (setX v s).irqLine = s.irqLine := rfl
@[simp] theorem setX_inputs (v : Byte) (s : State) : (setX v s).inputs = s.inputs := rfl
@[simp] theorem setX_extIn (v : Byte) (s : State) : (setX v s).extIn = s.extIn := rfl
@[simp] theorem setX_extReads (v : Byte) (s : State) : (setX v s).extReads = s.extReads := rfl
@[simp] theorem setX_events (v : Byte) (s : State) : (setX v s).events = s.events := rfl

@[simp] theorem setY_cpu_a (v : Byte) (s : State) : (setY v s).cpu.a = s.cpu.a := rfl
@[simp] theorem setY_cpu_x (v : Byte) (s : State) : (setY v s).cpu.x = s.cpu.x := rfl
@[simp] theorem setY_cpu_y (v : Byte) (s : State) : (setY v s).cpu.y = v := rfl
@[simp] theorem setY_cpu_sp (v : Byte) (s : State) : (setY v s).cpu.sp = s.cpu.sp := rfl
@[simp] theorem setY_cpu_pc (v : Byte) (s : State) : (setY v s).cpu.pc = s.cpu.pc := rfl
@[simp] theorem setY_cpu_p (v : Byte) (s : State) : (setY v s).cpu.p = s.cpu.p := rfl
@[simp] theorem setY_cpu_nmiPrev (v : Byte) (s : State) : (setY v s).cpu.nmiPrev = s.cpu.nmiPrev := rfl
@[simp] theorem setY_ram (v : Byte) (s : State) : (setY v s).ram = s.ram := rfl
@[simp] theorem setY_cyc (v : Byte) (s : State) : (setY v s).cyc = s.cyc := rfl
@[simp] theorem setY_ppu (v : Byte) (s : State) : (setY v s).ppu = s.ppu := rfl
@[simp] theorem setY_cart (v : Byte) (s : State) : (setY v s).cart = s.cart := rfl
@[simp] theorem setY_cfg (v : Byte) (s : State) : (setY v s).cfg = s.cfg := rfl
@[simp] theorem setY_cycles (v : Byte) (s : State) : (setY v s).cycles = s.cycles := rfl
@[simp] theorem setY_irqLine (v : Byte) (s : State) : (setY v s).irqLine = s.irqLine := rfl
@[simp] theorem setY_inputs (v : Byte) (s : State) : (setY v s).inputs = s.inputs := rfl
@[simp] theorem setY_extIn (v : Byte) (s : State) : (setY v s).extIn = s.extIn := rfl
@[simp] theorem setY_extReads (v : Byte) (s : State) : (setY v s).extReads = s.extReads := rfl
@[simp] theorem setY_events (v : Byte) (s : State) : (setY v s).events = s.events := rfl

@[simp] theorem updateNZ_cpu_a (v : Byte) (s : State) : (updateNZ v s).cpu.a = s.cpu.a := rfl
@[simp] theorem updateNZ_cpu_x (v : Byte) (s : State) : (updateNZ v s).cpu.x = s.cpu.x := rfl
@[simp] theorem updateNZ_cpu_y (v : Byte) (s : State) : (updateNZ v s).cpu.y = s.cpu.y := rfl
@[simp] theorem updateNZ_cpu_sp (v : Byte) (s : State) : (updateNZ v s).cpu.sp = s.cpu.sp := rfl
@[simp] theorem updateNZ_cpu_pc (v : Byte) (s : State) : (updateNZ v s).cpu.pc = s.cpu.pc := rfl
@[simp] theorem updateNZ_cpu_p (v : Byte) (s : State) : (updateNZ v s).cpu.p = setNZ v s.cpu.p := rfl
@[simp] theorem updateNZ_cpu_nmiPrev (v : Byte) (s : State) : (updateNZ v s).cpu.nmiPrev = s.cpu.nmiPrev := rfl
@[simp] theorem updateNZ_ram (v : Byte) (s : State) : (updateNZ v s).ram = s.ram := rfl
@[simp] theorem updateNZ_cyc (v : Byte) (s : State) : (updateNZ v s).cyc = s.cyc := rfl
@[simp] theorem updateNZ_ppu (v : Byte) (s : State) : (updateNZ v s).ppu = s.ppu := rfl
@[simp] theorem updateNZ_cart (v : Byte) (s : State) : (updateNZ v s).cart = s.cart := rfl
@[simp] theorem updateNZ_cfg (v : Byte) (s : State) : (updateNZ v s).cfg = s.cfg := rfl
@[simp] theorem updateNZ_cycles (v : Byte) (s : State) : (updateNZ v s).cycles = s.cycles := rfl
@[simp] theorem updateNZ_irqLine (v : Byte) (s : State) : (updateNZ v s).irqLine = s.irqLine := rfl
@[simp] theorem updateNZ_inputs (v : Byte) (s : State) : (updateNZ v s).inputs = s.inputs := rfl
@[simp] theorem updateNZ_extIn (v : Byte) (s : State) : (updateNZ v s).extIn = s.extIn := rfl
@[simp] theorem updateNZ_extReads (v : Byte) (s : State) : (updateNZ v s).extReads = s.extReads := rfl
@[simp] theorem updateNZ_events (v : Byte) (s : State) : (updateNZ v s).events = s.events := rfl

@[simp] theorem setCycles_cpu (n : Nat) (s : State) : (setCycles n s).cpu = s.cpu := rfl
@[simp] theorem setCycles_ram (n : Nat) (s : State) : (setCycles n s).ram = s.ram := rfl
@[simp] theorem setCycles_cyc (n : Nat) (s : State) : (setCycles n s).cyc = s.cyc := rfl
@[simp] theorem setCycles_ppu (n : Nat) (s : State) : (setCycles n s).ppu = s.ppu := rfl
@[simp] theorem setCycles_cart (n : Nat) (s : State) : (setCycles n s).cart = s.cart := rfl
@[simp] theorem setCycles_cfg (n : Nat) (s : State) : (setCycles n s).cfg = s.cfg := rfl
@[simp] theorem setCycles_cycles (n : Nat) (s : State) : (setCycles n s).cycles = n := rfl
@[simp] theorem setCycles_irqLine (n : Nat) (s : State) : (setCycles n s).irqLine = s.irqLine := rfl
@[simp] theorem setCycles_inputs (n : Nat) (s : State) : (setCycles n s).inputs = s.inputs := rfl
@[simp] theorem setCycles_extIn (n : Nat) (s : State) : (setCycles n s).extIn = s.extIn := rfl
@[simp] theorem setCycles_extReads (n : Nat) (s : State) : (setCycles n s).extReads = s.extReads := rfl
@[simp] theorem setCycles_events (n : Nat) (s : State) : (setCycles n s).events = s.events := rfl

@[simp] theorem addCycles_cpu (n : Nat) (s : State) : (addCycles n s).cpu = s.cpu := rfl
@[simp] theorem addCycles_ram (n : Nat) (s : State) : (addCycles n s).ram = s.ram := rfl
@[simp] theorem addCycles_cyc (n : Nat) (s : State) : (addCycles n s).cyc = s.cyc := rfl
@[simp] theorem addCycles_ppu (n : Nat) (s : State) : (addCycles n s).ppu = s.ppu := rfl
@[simp] theorem addCycles_cart (n : Nat) (s : State) : (addCycles n s).cart = s.cart := rfl
@[simp] theorem addCycles_cfg (n : Nat) (s : State) : (addCycles n s).cfg = s.cfg := rfl
@[simp] theorem addCycles_cycles (n : Nat) (s : State) : (addCycles n s).cycles = s.cycles + n := rfl
@[simp] theorem addCycles_irqLine (n : Nat) (s : State) : (addCycles n s).irqLine = s.irqLine := rfl
@[simp] theorem addCycles_inputs (n : Nat) (s : State) : (addCycles n s).inputs = s.inputs := rfl
@[simp] theorem addCycles_extIn (n : Nat) (s : State) : (addCycles n s).extIn = s.extIn := rfl
@[simp] theorem addCycles_extReads (n : Nat) (s : State) : (addCycles n s).extReads = s.extReads := rfl
@[simp] theorem addCycles_events (n : Nat) (s : State) : (addCycles n s).events = s.events := rfl

@[simp] theorem withCpu_cpu (c : Cpu) (s : State) : (withCpu c s).cpu = c := rfl
@[simp] theorem withCpu_ram (c : Cpu) (s : State) : (withCpu c s).ram = s.ram := rfl
@[simp] theorem withCpu_cyc (c : Cpu) (s : State) : (withCpu c s).cyc = s.cyc := rfl
@[simp] theorem withCpu_ppu (c : Cpu) (s : State) : (withCpu c s).ppu = s.ppu := rfl
@[simp] theorem withCpu_cart (c : Cpu) (s : State) : (withCpu c s).cart = s.cart := rfl
@[simp] theorem withCpu_cfg (c : Cpu) (s : State) : (withCpu c s).cfg = s.cfg := rfl
@[simp] theorem withCpu_cycles (c : Cpu) (s : State) : (withCpu c s).cycles = s.cycles := rfl
@[simp] theorem withCpu_irqLine (c : Cpu) (s : State) : (withCpu c s).irqLine = s.irqLine := rfl
@[simp] theorem withCpu_inputs (c : Cpu) (s : State) : (withCpu c s).inputs = s.inputs := rfl
@[simp] theorem withCpu_extIn (c : Cpu) (s : State) : (withCpu c s).extIn = s.extIn := rfl
@[simp] theorem withCpu_extReads (c : Cpu) (s : State) : (withCpu c s).extReads = s.extReads := rfl
@[simp] theorem withCpu_events (c : Cpu) (s : State) : (withCpu c s).events = s.events := rfl

@[simp] theorem beginStep_cpu (s : State) : (beginStep s).cpu = s.cpu := rfl
@[simp] theorem beginStep_ram (s : State) : (beginStep s).ram = s.ram := rfl
@[simp] theorem beginStep_cyc (s : State) : (beginStep s).cyc = s.cyc := rfl
@[simp] theorem beginStep_ppu (s : State) : (beginStep s).ppu = s.ppu := rfl
@[simp] theorem beginStep_cart (s : State) : (beginStep s).cart = s.cart := rfl
@[simp] theorem beginStep_cfg (s : State) : (beginStep s).cfg = s.cfg := rfl
@[simp] theorem beginStep_cycles (s : State) : (beginStep s).cycles = 0 := rfl
@[simp] theorem beginStep_irqLine (s : State) : (beginStep s).irqLine = s.irqLine := rfl
@[simp] theorem beginStep_inputs (s : State) : (beginStep s).inputs = s.inputs := rfl
@[simp] theorem beginStep_extIn (s : State) : (beginStep s).extIn = s.extIn := rfl
@[simp] theorem beginStep_extReads (s : State) : (beginStep s).extReads = s.extReads := rfl
@[simp] theorem beginStep_events (s : State) : (beginStep s).events = [] := rfl

end Sys2Proof.Machine
end

