-- ==== Sys2Proof/Laws/Memory.lean ====
section
/-! SUPPORT. What a sparse memory does: read after write, the canonical form kept, equal reads are equal
memories. -/

namespace Sys2Proof.Machine

variable {w : Nat}

@[simp] theorem readCell_nil (a : Nat) : readCell ([] : Cells w) a = 0#w := rfl

theorem readCell_cons (k : Nat) (v : BitVec w) (m : Cells w) (a : Nat) :
    readCell ((k, v) :: m) a = if k = a then v else readCell m a := rfl

theorem wfFrom_cons (lo k : Nat) (v : BitVec w) (m : Cells w) :
    wfFrom lo ((k, v) :: m) = true ↔ lo ≤ k ∧ v ≠ 0#w ∧ wfFrom (k + 1) m = true := by
  simp only [wfFrom, Bool.and_eq_true, decide_eq_true_eq, and_assoc]
  rfl

theorem wfFrom_weaken {m : Cells w} {lo lo' : Nat} (h : lo' ≤ lo) (hm : wfFrom lo m = true) :
    wfFrom lo' m = true := by
  cases m with
  | nil => rfl
  | cons c m =>
    obtain ⟨k, v⟩ := c
    rw [wfFrom_cons] at *
    exact ⟨by omega, hm.2⟩

/-- A cell below the first possible index is not listed. -/
theorem readCell_below {m : Cells w} {lo a : Nat} (hm : wfFrom lo m = true) (h : a < lo) :
    readCell m a = 0#w := by
  induction m generalizing lo with
  | nil => rfl
  | cons c m ih =>
    obtain ⟨k, v⟩ := c
    rw [wfFrom_cons] at hm
    rw [readCell_cons, if_neg (by omega)]
    exact ih hm.2.2 (by omega)

/-- READ AFTER WRITE: the written cell holds the value, every other cell is as before. The canonical form
is what makes a removed entry read as unlisted. -/
theorem readCell_writeCell_from {m : Cells w} {lo : Nat} (hm : wfFrom lo m = true) (a b : Nat)
    (v : BitVec w) : readCell (writeCell m a v) b = if b = a then v else readCell m b := by
  induction m generalizing lo with
  | nil =>
    unfold writeCell
    split
    · next h => subst h; simp [unlisted]
    · simp only [readCell_cons, readCell_nil, eq_comm]
  | cons c m ih =>
    obtain ⟨k, x⟩ := c
    rw [wfFrom_cons] at hm
    unfold writeCell
    split
    · next hlt =>
      split
      · next h =>
        subst h
        split
        · next hb => subst hb; rw [readCell_cons, if_neg (by omega), readCell_below hm.2.2 (by omega)]; rfl
        · rfl
      · simp only [readCell_cons (k := a), eq_comm (a := a)]
    · split
      · next hge heq =>
        subst heq
        split
        · next h =>
          subst h
          split
          · next hb => subst hb; rw [readCell_below hm.2.2 (by omega)]; rfl
          · next hb => rw [readCell_cons, if_neg (by omega)]
        · simp only [readCell_cons, eq_comm (a := a)]
          split <;> rfl
      · next hge hne =>
        rw [readCell_cons, ih hm.2.2, readCell_cons]
        split
        · next hk => rw [if_neg (by omega)]
        · rfl

theorem readCell_writeCell {m : Cells w} (hm : Memory.wf m = true) (a b : Nat) (v : BitVec w) :
    readCell (writeCell m a v) b = if b = a then v else readCell m b :=
  readCell_writeCell_from hm a b v

theorem wfFrom_writeCell {m : Cells w} {lo a : Nat} (hm : wfFrom lo m = true) (h : lo ≤ a)
    (v : BitVec w) : wfFrom lo (writeCell m a v) = true := by
  induction m generalizing lo with
  | nil =>
    unfold writeCell
    split
    · rfl
    · next hv => exact (wfFrom_cons ..).2 ⟨h, hv, rfl⟩
  | cons c m ih =>
    obtain ⟨k, x⟩ := c
    have hc := (wfFrom_cons ..).1 hm
    unfold writeCell
    split
    · split
      · exact hm
      · next hlt hv => exact (wfFrom_cons ..).2 ⟨h, hv, (wfFrom_cons ..).2 ⟨by omega, hc.2⟩⟩
    · split
      · next hge heq =>
        split
        · exact wfFrom_weaken (by omega) hc.2.2
        · next hv => subst heq; exact (wfFrom_cons ..).2 ⟨h, hv, hc.2.2⟩
      · exact (wfFrom_cons ..).2 ⟨hc.1, hc.2.1, ih hc.2.2 (by omega)⟩

/-- A write keeps the canonical form. -/
theorem wf_writeCell {m : Cells w} (hm : Memory.wf m = true) (a : Nat) (v : BitVec w) :
    Memory.wf (writeCell m a v) = true :=
  wfFrom_writeCell hm (Nat.zero_le a) v

/-- A write within the size lists nothing beyond it. -/
theorem within_writeCell {m : Cells w} {size a : Nat} (hm : within size m = true) (h : a < size)
    (v : BitVec w) : within size (writeCell m a v) = true := by
  induction m with
  | nil => unfold writeCell; split <;> simp [within, h]
  | cons c m ih =>
    obtain ⟨k, x⟩ := c
    have hm' : k < size ∧ within size m = true := by simpa [within] using hm
    have hc : within size (writeCell m a v) = true := ih hm'.2
    unfold writeCell
    split
    · split
      · exact hm
      · simpa [within, h] using hm
    · split
      · split
        · exact hm'.2
        · simpa [within, h] using hm'.2
      · simp only [within, List.all_cons, decide_eq_true hm'.1, Bool.true_and]
        exact hc

/-- Equal memories are equal lists: two memories in canonical form that read alike are one. -/
theorem cells_ext_from {m n : Cells w} {lo lo' : Nat} (hm : wfFrom lo m = true) (hn : wfFrom lo' n = true)
    (h : ∀ a, readCell m a = readCell n a) : m = n := by
  induction m generalizing n lo lo' with
  | nil =>
    cases n with
    | nil => rfl
    | cons d n =>
      obtain ⟨k, v⟩ := d
      have hv := h k
      rw [readCell_cons, if_pos rfl] at hv
      exact absurd hv.symm ((wfFrom_cons ..).1 hn).2.1
  | cons c m ih =>
    obtain ⟨j, u⟩ := c
    have hm' := (wfFrom_cons ..).1 hm
    cases n with
    | nil =>
      have hv := h j
      rw [readCell_cons, if_pos rfl] at hv
      exact absurd hv hm'.2.1
    | cons d n =>
      obtain ⟨k, v⟩ := d
      have hn' := (wfFrom_cons ..).1 hn
      have hjk : j = k := by
        rcases Nat.lt_trichotomy j k with hlt | heq | hgt
        · have hv := h j
          rw [readCell_cons, if_pos rfl, readCell_cons, if_neg (by omega),
            readCell_below hn'.2.2 (by omega)] at hv
          exact absurd hv hm'.2.1
        · exact heq
        · have hv := h k
          rw [readCell_cons, if_neg (by omega), readCell_below hm'.2.2 (by omega), readCell_cons,
            if_pos rfl] at hv
          exact absurd hv.symm hn'.2.1
      subst hjk
      have huv : u = v := by
        have hv := h j
        rwa [readCell_cons, if_pos rfl, readCell_cons, if_pos rfl] at hv
      subst huv
      have hrest : ∀ a, readCell m a = readCell n a := by
        intro a
        by_cases ha : j = a
        · subst ha
          rw [readCell_below hm'.2.2 (by omega), readCell_below hn'.2.2 (by omega)]
        · have hv := h a
          rwa [readCell_cons, if_neg ha, readCell_cons, if_neg ha] at hv
      rw [ih hm'.2.2 hn'.2.2 hrest]

theorem cells_ext {m n : Cells w} (hm : Memory.wf m = true) (hn : Memory.wf n = true)
    (h : ∀ a, readCell m a = readCell n a) : m = n :=
  cells_ext_from hm hn h

end Sys2Proof.Machine
end

