-- ==== Sys2Proof/Laws/Bus.lean ====
section
/-! SUPPORT. What a bus access can change (spec/20_memory.md R50): everything else is as before. And the
accesses to RAM and program memory in closed form. -/

namespace Sys2Proof.Machine

@[simp] theorem ppuWrite_cpu (a : VAddr) (d : Byte) (s : State) : (ppuWrite a d s).cpu = s.cpu := by
  unfold ppuWrite; split <;> [rfl; (split <;> rfl)]
@[simp] theorem ppuWrite_ram (a : VAddr) (d : Byte) (s : State) : (ppuWrite a d s).ram = s.ram := by
  unfold ppuWrite; split <;> [rfl; (split <;> rfl)]
@[simp] theorem ppuWrite_cyc (a : VAddr) (d : Byte) (s : State) : (ppuWrite a d s).cyc = s.cyc := by
  unfold ppuWrite; split <;> [rfl; (split <;> rfl)]
@[simp] theorem ppuWrite_cfg (a : VAddr) (d : Byte) (s : State) : (ppuWrite a d s).cfg = s.cfg := by
  unfold ppuWrite; split <;> [rfl; (split <;> rfl)]
@[simp] theorem ppuWrite_cycles (a : VAddr) (d : Byte) (s : State) : (ppuWrite a d s).cycles = s.cycles := by
  unfold ppuWrite; split <;> [rfl; (split <;> rfl)]
@[simp] theorem ppuWrite_irqLine (a : VAddr) (d : Byte) (s : State) : (ppuWrite a d s).irqLine = s.irqLine := by
  unfold ppuWrite; split <;> [rfl; (split <;> rfl)]
@[simp] theorem ppuWrite_inputs (a : VAddr) (d : Byte) (s : State) : (ppuWrite a d s).inputs = s.inputs := by
  unfold ppuWrite; split <;> [rfl; (split <;> rfl)]
@[simp] theorem ppuWrite_extIn (a : VAddr) (d : Byte) (s : State) : (ppuWrite a d s).extIn = s.extIn := by
  unfold ppuWrite; split <;> [rfl; (split <;> rfl)]
@[simp] theorem ppuWrite_extReads (a : VAddr) (d : Byte) (s : State) : (ppuWrite a d s).extReads = s.extReads := by
  unfold ppuWrite; split <;> [rfl; (split <;> rfl)]
@[simp] theorem ppuWrite_events (a : VAddr) (d : Byte) (s : State) : (ppuWrite a d s).events = s.events := by
  unfold ppuWrite; split <;> [rfl; (split <;> rfl)]

@[simp] theorem chrWrite_prg (a : VAddr) (d : Byte) (c : Cartridge) : (chrWrite a d c).prg = c.prg := by
  unfold chrWrite; split <;> rfl
@[simp] theorem chrWrite_prgBanks (a : VAddr) (d : Byte) (c : Cartridge) :
    (chrWrite a d c).prgBanks = c.prgBanks := by
  unfold chrWrite; split <;> rfl
@[simp] theorem chrWrite_chrIsRam (a : VAddr) (d : Byte) (c : Cartridge) :
    (chrWrite a d c).chrIsRam = c.chrIsRam := by
  unfold chrWrite; split <;> rfl
@[simp] theorem chrWrite_mirroring (a : VAddr) (d : Byte) (c : Cartridge) :
    (chrWrite a d c).mirroring = c.mirroring := by
  unfold chrWrite; split <;> rfl
@[simp] theorem chrWrite_mapperId (a : VAddr) (d : Byte) (c : Cartridge) :
    (chrWrite a d c).mapperId = c.mapperId := by
  unfold chrWrite; split <;> rfl
theorem chrWrite_chr_of_rom {c : Cartridge} (h : c.chrIsRam = false) (a : VAddr) (d : Byte) :
    chrWrite a d c = c := by
  unfold chrWrite; simp [h]

@[simp] theorem ppuWrite_cart_prg (a : VAddr) (d : Byte) (s : State) : (ppuWrite a d s).cart.prg = s.cart.prg := by
  unfold ppuWrite; split <;> [simp; (split <;> rfl)]
@[simp] theorem ppuWrite_cart_prgBanks (a : VAddr) (d : Byte) (s : State) : (ppuWrite a d s).cart.prgBanks = s.cart.prgBanks := by
  unfold ppuWrite; split <;> [simp; (split <;> rfl)]
@[simp] theorem ppuWrite_cart_chrIsRam (a : VAddr) (d : Byte) (s : State) : (ppuWrite a d s).cart.chrIsRam = s.cart.chrIsRam := by
  unfold ppuWrite; split <;> [simp; (split <;> rfl)]
@[simp] theorem ppuWrite_cart_mirroring (a : VAddr) (d : Byte) (s : State) : (ppuWrite a d s).cart.mirroring = s.cart.mirroring := by
  unfold ppuWrite; split <;> [simp; (split <;> rfl)]
@[simp] theorem ppuWrite_cart_mapperId (a : VAddr) (d : Byte) (s : State) : (ppuWrite a d s).cart.mapperId = s.cart.mapperId := by
  unfold ppuWrite; split <;> [simp; (split <;> rfl)]

@[simp] theorem writeData_cpu (d : Byte) (s : State) : (writeData d s).cpu = s.cpu := by
  simp [writeData]
@[simp] theorem writeData_ram (d : Byte) (s : State) : (writeData d s).ram = s.ram := by
  simp [writeData]
@[simp] theorem writeData_cyc (d : Byte) (s : State) : (writeData d s).cyc = s.cyc := by
  simp [writeData]
@[simp] theorem writeData_cfg (d : Byte) (s : State) : (writeData d s).cfg = s.cfg := by
  simp [writeData]
@[simp] theorem writeData_cycles (d : Byte) (s : State) : (writeData d s).cycles = s.cycles := by
  simp [writeData]
@[simp] theorem writeData_irqLine (d : Byte) (s : State) : (writeData d s).irqLine = s.irqLine := by
  simp [writeData]
@[simp] theorem writeData_inputs (d : Byte) (s : State) : (writeData d s).inputs = s.inputs := by
  simp [writeData]
@[simp] theorem writeData_extIn (d : Byte) (s : State) : (writeData d s).extIn = s.extIn := by
  simp [writeData]
@[simp] theorem writeData_extReads (d : Byte) (s : State) : (writeData d s).extReads = s.extReads := by
  simp [writeData]
@[simp] theorem writeData_events (d : Byte) (s : State) : (writeData d s).events = s.events := by
  simp [writeData]
@[simp] theorem writeData_cart_prg (d : Byte) (s : State) : (writeData d s).cart.prg = s.cart.prg := by
  simp [writeData]
@[simp] theorem writeData_cart_prgBanks (d : Byte) (s : State) : (writeData d s).cart.prgBanks = s.cart.prgBanks := by
  simp [writeData]
@[simp] theorem writeData_cart_chrIsRam (d : Byte) (s : State) : (writeData d s).cart.chrIsRam = s.cart.chrIsRam := by
  simp [writeData]
@[simp] theorem writeData_cart_mirroring (d : Byte) (s : State) : (writeData d s).cart.mirroring = s.cart.mirroring := by
  simp [writeData]
@[simp] theorem writeData_cart_mapperId (d : Byte) (s : State) : (writeData d s).cart.mapperId = s.cart.mapperId := by
  simp [writeData]

@[simp] theorem ppuRegWrite_cpu (n : BitVec 3) (d : Byte) (s : State) : (ppuRegWrite n d s).cpu = s.cpu := by
  unfold ppuRegWrite; repeat' split
  all_goals first | rfl | simp
@[simp] theorem ppuRegWrite_ram (n : BitVec 3) (d : Byte) (s : State) : (ppuRegWrite n d s).ram = s.ram := by
  unfold ppuRegWrite; repeat' split
  all_goals first | rfl | simp
@[simp] theorem ppuRegWrite_cyc (n : BitVec 3) (d : Byte) (s : State) : (ppuRegWrite n d s).cyc = s.cyc := by
  unfold ppuRegWrite; repeat' split
  all_goals first | rfl | simp
@[simp] theorem ppuRegWrite_cfg (n : BitVec 3) (d : Byte) (s : State) : (ppuRegWrite n d s).cfg = s.cfg := by
  unfold ppuRegWrite; repeat' split
  all_goals first | rfl | simp
@[simp] theorem ppuRegWrite_cycles (n : BitVec 3) (d : Byte) (s : State) : (ppuRegWrite n d s).cycles = s.cycles := by
  unfold ppuRegWrite; repeat' split
  all_goals first | rfl | simp
@[simp] theorem ppuRegWrite_irqLine (n : BitVec 3) (d : Byte) (s : State) : (ppuRegWrite n d s).irqLine = s.irqLine := by
  unfold ppuRegWrite; repeat' split
  all_goals first | rfl | simp
@[simp] theorem ppuRegWrite_inputs (n : BitVec 3) (d : Byte) (s : State) : (ppuRegWrite n d s).inputs = s.inputs := by
  unfold ppuRegWrite; repeat' split
  all_goals first | rfl | simp
@[simp] theorem ppuRegWrite_extIn (n : BitVec 3) (d : Byte) (s : State) : (ppuRegWrite n d s).extIn = s.extIn := by
  unfold ppuRegWrite; repeat' split
  all_goals first | rfl | simp
@[simp] theorem ppuRegWrite_extReads (n : BitVec 3) (d : Byte) (s : State) : (ppuRegWrite n d s).extReads = s.extReads := by
  unfold ppuRegWrite; repeat' split
  all_goals first | rfl | simp
@[simp] theorem ppuRegWrite_events (n : BitVec 3) (d : Byte) (s : State) : (ppuRegWrite n d s).events = s.events := by
  unfold ppuRegWrite; repeat' split
  all_goals first | rfl | simp
@[simp] theorem ppuRegWrite_cart_prg (n : BitVec 3) (d : Byte) (s : State) : (ppuRegWrite n d s).cart.prg = s.cart.prg := by
  unfold ppuRegWrite; repeat' split
  all_goals first | rfl | simp
@[simp] theorem ppuRegWrite_cart_prgBanks (n : BitVec 3) (d : Byte) (s : State) : (ppuRegWrite n d s).cart.prgBanks = s.cart.prgBanks := by
  unfold ppuRegWrite; repeat' split
  all_goals first | rfl | simp
@[simp] theorem ppuRegWrite_cart_chrIsRam (n : BitVec 3) (d : Byte) (s : State) : (ppuRegWrite n d s).cart.chrIsRam = s.cart.chrIsRam := by
  unfold ppuRegWrite; repeat' split
  all_goals first | rfl | simp
@[simp] theorem ppuRegWrite_cart_mirroring (n : BitVec 3) (d : Byte) (s : State) : (ppuRegWrite n d s).cart.mirroring = s.cart.mirroring := by
  unfold ppuRegWrite; repeat' split
  all_goals first | rfl | simp
@[simp] theorem ppuRegWrite_cart_mapperId (n : BitVec 3) (d : Byte) (s : State) : (ppuRegWrite n d s).cart.mapperId = s.cart.mapperId := by
  unfold ppuRegWrite; repeat' split
  all_goals rfl

/-- A read of register 7 changes the picture unit only. -/
theorem readData_state (s : State) : (readData s).2 = { s with ppu := (readData s).2.ppu } := by
  unfold readData readDataBuffered readDataImmediate
  dsimp only
  repeat' split
  all_goals rfl

/-- A register read changes the picture unit only (R50). -/
theorem ppuRegRead_state (n : BitVec 3) (s : State) :
    (ppuRegRead n s).2 = { s with ppu := (ppuRegRead n s).2.ppu } := by
  unfold ppuRegRead
  repeat' split
  all_goals first | rfl | exact readData_state s

@[simp] theorem ppuRegRead_cpu (n : BitVec 3) (s : State) : ((ppuRegRead n s).2).cpu = s.cpu := by
  rw [ppuRegRead_state]
@[simp] theorem ppuRegRead_ram (n : BitVec 3) (s : State) : ((ppuRegRead n s).2).ram = s.ram := by
  rw [ppuRegRead_state]
@[simp] theorem ppuRegRead_cyc (n : BitVec 3) (s : State) : ((ppuRegRead n s).2).cyc = s.cyc := by
  rw [ppuRegRead_state]
@[simp] theorem ppuRegRead_cart (n : BitVec 3) (s : State) : ((ppuRegRead n s).2).cart = s.cart := by
  rw [ppuRegRead_state]
@[simp] theorem ppuRegRead_cfg (n : BitVec 3) (s : State) : ((ppuRegRead n s).2).cfg = s.cfg := by
  rw [ppuRegRead_state]
@[simp] theorem ppuRegRead_cycles (n : BitVec 3) (s : State) : ((ppuRegRead n s).2).cycles = s.cycles := by
  rw [ppuRegRead_state]
@[simp] theorem ppuRegRead_irqLine (n : BitVec 3) (s : State) : ((ppuRegRead n s).2).irqLine = s.irqLine := by
  rw [ppuRegRead_state]
@[simp] theorem ppuRegRead_inputs (n : BitVec 3) (s : State) : ((ppuRegRead n s).2).inputs = s.inputs := by
  rw [ppuRegRead_state]
@[simp] theorem ppuRegRead_extIn (n : BitVec 3) (s : State) : ((ppuRegRead n s).2).extIn = s.extIn := by
  rw [ppuRegRead_state]
@[simp] theorem ppuRegRead_extReads (n : BitVec 3) (s : State) : ((ppuRegRead n s).2).extReads = s.extReads := by
  rw [ppuRegRead_state]
@[simp] theorem ppuRegRead_events (n : BitVec 3) (s : State) : ((ppuRegRead n s).2).events = s.events := by
  rw [ppuRegRead_state]

@[simp] theorem extRead_cpu (a : Addr) (s : State) : ((extRead a s).2).cpu = s.cpu := by
  unfold extRead; split <;> rfl
@[simp] theorem extRead_ram (a : Addr) (s : State) : ((extRead a s).2).ram = s.ram := by
  unfold extRead; split <;> rfl
@[simp] theorem extRead_cyc (a : Addr) (s : State) : ((extRead a s).2).cyc = s.cyc := by
  unfold extRead; split <;> rfl
@[simp] theorem extRead_ppu (a : Addr) (s : State) : ((extRead a s).2).ppu = s.ppu := by
  unfold extRead; split <;> rfl
@[simp] theorem extRead_cart (a : Addr) (s : State) : ((extRead a s).2).cart = s.cart := by
  unfold extRead; split <;> rfl
@[simp] theorem extRead_cfg (a : Addr) (s : State) : ((extRead a s).2).cfg = s.cfg := by
  unfold extRead; split <;> rfl
@[simp] theorem extRead_cycles (a : Addr) (s : State) : ((extRead a s).2).cycles = s.cycles := by
  unfold extRead; split <;> rfl
@[simp] theorem extRead_irqLine (a : Addr) (s : State) : ((extRead a s).2).irqLine = s.irqLine := by
  unfold extRead; split <;> rfl
@[simp] theorem extRead_inputs (a : Addr) (s : State) : ((extRead a s).2).inputs = s.inputs := by
  unfold extRead; split <;> rfl
@[simp] theorem extRead_events (a : Addr) (s : State) : ((extRead a s).2).events = s.events := by
  unfold extRead; split <;> rfl

/-- What a bus read can change: the picture unit and the environment's answers (R50, R52). -/
theorem busRead_state (a : Addr) (s : State) :
    (busRead a s).2 = { s with
      ppu := (busRead a s).2.ppu, extIn := (busRead a s).2.extIn, extReads := (busRead a s).2.extReads } := by
  unfold busRead
  repeat' split
  · rfl
  · rw [ppuRegRead_state]
  · unfold extRead; split <;> rfl
  · rfl
  · rfl

@[simp] theorem busRead_cpu (a : Addr) (s : State) : ((busRead a s).2).cpu = s.cpu := by
  rw [busRead_state]
@[simp] theorem busRead_ram (a : Addr) (s : State) : ((busRead a s).2).ram = s.ram := by
  rw [busRead_state]
@[simp] theorem busRead_cyc (a : Addr) (s : State) : ((busRead a s).2).cyc = s.cyc := by
  rw [busRead_state]
@[simp] theorem busRead_cart (a : Addr) (s : State) : ((busRead a s).2).cart = s.cart := by
  rw [busRead_state]
@[simp] theorem busRead_cfg (a : Addr) (s : State) : ((busRead a s).2).cfg = s.cfg := by
  rw [busRead_state]
@[simp] theorem busRead_cycles (a : Addr) (s : State) : ((busRead a s).2).cycles = s.cycles := by
  rw [busRead_state]
@[simp] theorem busRead_irqLine (a : Addr) (s : State) : ((busRead a s).2).irqLine = s.irqLine := by
  rw [busRead_state]
@[simp] theorem busRead_inputs (a : Addr) (s : State) : ((busRead a s).2).inputs = s.inputs := by
  rw [busRead_state]
@[simp] theorem busRead_events (a : Addr) (s : State) : ((busRead a s).2).events = s.events := by
  rw [busRead_state]

@[simp] theorem dmaByte_cpu (page : Byte) (i : Nat) (s : State) : (dmaByte page i s).cpu = s.cpu := by
  simp [dmaByte]
@[simp] theorem dmaByte_ram (page : Byte) (i : Nat) (s : State) : (dmaByte page i s).ram = s.ram := by
  simp [dmaByte]
@[simp] theorem dmaByte_cyc (page : Byte) (i : Nat) (s : State) : (dmaByte page i s).cyc = s.cyc := by
  simp [dmaByte]
@[simp] theorem dmaByte_cart (page : Byte) (i : Nat) (s : State) : (dmaByte page i s).cart = s.cart := by
  simp [dmaByte]
@[simp] theorem dmaByte_cfg (page : Byte) (i : Nat) (s : State) : (dmaByte page i s).cfg = s.cfg := by
  simp [dmaByte]
@[simp] theorem dmaByte_cycles (page : Byte) (i : Nat) (s : State) : (dmaByte page i s).cycles = s.cycles := by
  simp [dmaByte]
@[simp] theorem dmaByte_irqLine (page : Byte) (i : Nat) (s : State) : (dmaByte page i s).irqLine = s.irqLine := by
  simp [dmaByte]
@[simp] theorem dmaByte_inputs (page : Byte) (i : Nat) (s : State) : (dmaByte page i s).inputs = s.inputs := by
  simp [dmaByte]
@[simp] theorem dmaByte_events (page : Byte) (i : Nat) (s : State) : (dmaByte page i s).events = s.events := by
  simp [dmaByte]

@[simp] theorem dmaBytes_cpu (page : Byte) (n : Nat) (s : State) : (dmaBytes page n s).cpu = s.cpu := by
  induction n with
  | zero => rfl
  | succ n ih => simp [dmaBytes, ih]
@[simp] theorem dmaBytes_ram (page : Byte) (n : Nat) (s : State) : (dmaBytes page n s).ram = s.ram := by
  induction n with
  | zero => rfl
  | succ n ih => simp [dmaBytes, ih]
@[simp] theorem dmaBytes_cyc (page : Byte) (n : Nat) (s : State) : (dmaBytes page n s).cyc = s.cyc := by
  induction n with
  | zero => rfl
  | succ n ih => simp [dmaBytes, ih]
@[simp] theorem dmaBytes_cart (page : Byte) (n : Nat) (s : State) : (dmaBytes page n s).cart = s.cart := by
  induction n with
  | zero => rfl
  | succ n ih => simp [dmaBytes, ih]
@[simp] theorem dmaBytes_cfg (page : Byte) (n : Nat) (s : State) : (dmaBytes page n s).cfg = s.cfg := by
  induction n with
  | zero => rfl
  | succ n ih => simp [dmaBytes, ih]
@[simp] theorem dmaBytes_cycles (page : Byte) (n : Nat) (s : State) : (dmaBytes page n s).cycles = s.cycles := by
  induction n with
  | zero => rfl
  | succ n ih => simp [dmaBytes, ih]
@[simp] theorem dmaBytes_irqLine (page : Byte) (n : Nat) (s : State) : (dmaBytes page n s).irqLine = s.irqLine := by
  induction n with
  | zero => rfl
  | succ n ih => simp [dmaBytes, ih]
@[simp] theorem dmaBytes_inputs (page : Byte) (n : Nat) (s : State) : (dmaBytes page n s).inputs = s.inputs := by
  induction n with
  | zero => rfl
  | succ n ih => simp [dmaBytes, ih]
@[simp] theorem dmaBytes_events (page : Byte) (n : Nat) (s : State) : (dmaBytes page n s).events = s.events := by
  induction n with
  | zero => rfl
  | succ n ih => simp [dmaBytes, ih]

@[simp] theorem oamDma_cpu (page : Byte) (s : State) : (oamDma page s).cpu = s.cpu := by
  simp [oamDma]
@[simp] theorem oamDma_ram (page : Byte) (s : State) : (oamDma page s).ram = s.ram := by
  simp [oamDma]
@[simp] theorem oamDma_cyc (page : Byte) (s : State) : (oamDma page s).cyc = s.cyc := by
  simp [oamDma]
@[simp] theorem oamDma_cart (page : Byte) (s : State) : (oamDma page s).cart = s.cart := by
  simp [oamDma]
@[simp] theorem oamDma_cfg (page : Byte) (s : State) : (oamDma page s).cfg = s.cfg := by
  simp [oamDma]
@[simp] theorem oamDma_irqLine (page : Byte) (s : State) : (oamDma page s).irqLine = s.irqLine := by
  simp [oamDma]
@[simp] theorem oamDma_inputs (page : Byte) (s : State) : (oamDma page s).inputs = s.inputs := by
  simp [oamDma]
@[simp] theorem oamDma_events (page : Byte) (s : State) : (oamDma page s).events = s.events := by
  simp [oamDma]

@[simp] theorem oamDma_cycles (page : Byte) (s : State) :
    (oamDma page s).cycles = s.cycles + dmaCost s.cyc := by
  simp [oamDma]

@[simp] theorem busWrite_cpu (a : Addr) (v : Byte) (s : State) : (busWrite a v s).cpu = s.cpu := by
  unfold busWrite; repeat' split
  all_goals first | rfl | simp
@[simp] theorem busWrite_cyc (a : Addr) (v : Byte) (s : State) : (busWrite a v s).cyc = s.cyc := by
  unfold busWrite; repeat' split
  all_goals first | rfl | simp
@[simp] theorem busWrite_cfg (a : Addr) (v : Byte) (s : State) : (busWrite a v s).cfg = s.cfg := by
  unfold busWrite; repeat' split
  all_goals first | rfl | simp
@[simp] theorem busWrite_irqLine (a : Addr) (v : Byte) (s : State) : (busWrite a v s).irqLine = s.irqLine := by
  unfold busWrite; repeat' split
  all_goals first | rfl | simp
@[simp] theorem busWrite_inputs (a : Addr) (v : Byte) (s : State) : (busWrite a v s).inputs = s.inputs := by
  unfold busWrite; repeat' split
  all_goals first | rfl | simp
@[simp] theorem busWrite_cart_prg (a : Addr) (v : Byte) (s : State) : (busWrite a v s).cart.prg = s.cart.prg := by
  unfold busWrite; repeat' split
  all_goals first | rfl | simp
@[simp] theorem busWrite_cart_prgBanks (a : Addr) (v : Byte) (s : State) : (busWrite a v s).cart.prgBanks = s.cart.prgBanks := by
  unfold busWrite; repeat' split
  all_goals first | rfl | simp
@[simp] theorem busWrite_cart_chrIsRam (a : Addr) (v : Byte) (s : State) : (busWrite a v s).cart.chrIsRam = s.cart.chrIsRam := by
  unfold busWrite; repeat' split
  all_goals first | rfl | simp
@[simp] theorem busWrite_cart_mirroring (a : Addr) (v : Byte) (s : State) : (busWrite a v s).cart.mirroring = s.cart.mirroring := by
  unfold busWrite; repeat' split
  all_goals first | rfl | simp
@[simp] theorem busWrite_cart_mapperId (a : Addr) (v : Byte) (s : State) : (busWrite a v s).cart.mapperId = s.cart.mapperId := by
  unfold busWrite; repeat' split
  all_goals rfl

@[simp] theorem push_cyc (v : Byte) (s : State) : (push v s).cyc = s.cyc := by
  simp [push]
@[simp] theorem push_cfg (v : Byte) (s : State) : (push v s).cfg = s.cfg := by
  simp [push]
@[simp] theorem push_irqLine (v : Byte) (s : State) : (push v s).irqLine = s.irqLine := by
  simp [push]
@[simp] theorem push_inputs (v : Byte) (s : State) : (push v s).inputs = s.inputs := by
  simp [push]
@[simp] theorem push_cart_prg (v : Byte) (s : State) : (push v s).cart.prg = s.cart.prg := by
  simp [push]
@[simp] theorem push_cart_prgBanks (v : Byte) (s : State) : (push v s).cart.prgBanks = s.cart.prgBanks := by
  simp [push]
@[simp] theorem push_cart_chrIsRam (v : Byte) (s : State) : (push v s).cart.chrIsRam = s.cart.chrIsRam := by
  simp [push]
@[simp] theorem push_cart_mirroring (v : Byte) (s : State) : (push v s).cart.mirroring = s.cart.mirroring := by
  simp [push]
@[simp] theorem push_cart_mapperId (v : Byte) (s : State) : (push v s).cart.mapperId = s.cart.mapperId := by
  simp [push]

/-! ## RAM and program memory -/

theorem busRead_inRam {a : Addr} (h : a.toNat ≤ 0x1FFF) (s : State) :
    busRead a s = (readCell s.ram (ramIndex a), s) := by
  unfold busRead; rw [if_pos h]

theorem busRead_prg {a : Addr} (h : 0x8000 ≤ a.toNat) (s : State) :
    busRead a s = (readCell s.cart.prg (prgIndex s.cart a), s) := by
  unfold busRead
  rw [if_neg (by omega), if_neg (by omega), if_neg (by omega), if_neg (by omega)]

theorem busRead_openBus {a : Addr} (h : 0x4020 ≤ a.toNat) (h' : a.toNat ≤ 0x7FFF) (s : State) :
    busRead a s = (s.cfg.openBus, s) := by
  unfold busRead
  rw [if_neg (by omega), if_neg (by omega), if_neg (by omega), if_pos h']

theorem busWrite_inRam {a : Addr} (h : a.toNat ≤ 0x1FFF) (v : Byte) (s : State) :
    busWrite a v s = { s with ram := writeCell s.ram (ramIndex a) v } := by
  unfold busWrite; rw [if_pos h]

theorem busWrite_ignored {a : Addr} (h : 0x4020 ≤ a.toNat) (v : Byte) (s : State) :
    busWrite a v s = s := by
  unfold busWrite
  rw [if_neg (by omega), if_neg (by omega), if_neg (by omega), if_neg (by omega)]

/-- Where the byte SP designates lies in RAM (R12). -/
def stackIndex (sp : Byte) : Nat := 256 + sp.toNat

theorem stackAddr_toNat (sp : Byte) : (stackAddr sp).toNat = stackIndex sp := by
  unfold stackAddr stackIndex
  rw [BitVec.toNat_append]
  have := sp.isLt
  rw [show (0x01#8 : Byte).toNat = 1 from rfl, Nat.shiftLeft_eq, show 1 * 2 ^ 8 = 2 ^ 8 * 1 from rfl,
    ← Nat.two_pow_add_eq_or_of_lt this]

theorem stackIndex_lt (sp : Byte) : stackIndex sp < 512 := by
  unfold stackIndex; have := sp.isLt; omega

theorem ramIndex_stackAddr (sp : Byte) : ramIndex (stackAddr sp) = stackIndex sp := by
  unfold ramIndex
  rw [stackAddr_toNat]
  have := stackIndex_lt sp
  omega

@[simp] theorem busRead_stack (sp : Byte) (s : State) :
    busRead (stackAddr sp) s = (readCell s.ram (stackIndex sp), s) := by
  rw [busRead_inRam (by rw [stackAddr_toNat]; have := stackIndex_lt sp; omega), ramIndex_stackAddr]

@[simp] theorem busWrite_stack (sp v : Byte) (s : State) :
    busWrite (stackAddr sp) v s = { s with ram := writeCell s.ram (stackIndex sp) v } := by
  rw [busWrite_inRam (by rw [stackAddr_toNat]; have := stackIndex_lt sp; omega), ramIndex_stackAddr]

/-- A push in closed form (R120). -/
theorem push_eq (v : Byte) (s : State) :
    push v s = { s with
      ram := writeCell s.ram (stackIndex s.cpu.sp) v
      cpu := { s.cpu with sp := s.cpu.sp - 1 } } := by
  simp [push, setSp]

/-- A pop in closed form (R121). -/
theorem pop_eq (s : State) :
    pop s = (readCell s.ram (stackIndex (s.cpu.sp + 1)), setSp (s.cpu.sp + 1) s) := by
  simp [pop, setSp]

/-- A vector or pointer in program memory, in closed form. -/
theorem readPair_prg {a b : Addr} (ha : 0x8000 ≤ a.toNat) (hb : 0x8000 ≤ b.toNat) (s : State) :
    readPair a b s =
      (readCell s.cart.prg (prgIndex s.cart b) ++ readCell s.cart.prg (prgIndex s.cart a), s) := by
  simp [readPair, busRead_prg ha, busRead_prg hb]

/-- A pointer in RAM, in closed form. -/
theorem readPair_ram {a b : Addr} (ha : a.toNat ≤ 0x1FFF) (hb : b.toNat ≤ 0x1FFF) (s : State) :
    readPair a b s = (readCell s.ram (ramIndex b) ++ readCell s.ram (ramIndex a), s) := by
  simp [readPair, busRead_inRam ha, busRead_inRam hb]

/-- The 16-bit vector an entry loads into PC (R289). -/
def vectorTarget (k : Interrupt) (c : Cartridge) : Addr :=
  readCell c.prg (prgIndex c (vector k + 1)) ++ readCell c.prg (prgIndex c (vector k))

/-- TAKING AN EXCEPTION in closed form: three bytes on the stack, SP lowered by three, I set, PC at the
vector's content, everything else as before (R288, R290). -/
theorem enterInterrupt_eq (k : Interrupt) (s : State) :
    enterInterrupt k s = { s with
      ram := writeCell (writeCell (writeCell s.ram (stackIndex s.cpu.sp) (hiByte (returnAddr k s.cpu.pc)))
        (stackIndex (s.cpu.sp - 1)) (loByte (returnAddr k s.cpu.pc)))
        (stackIndex (s.cpu.sp - 1 - 1)) (packP (breakBit k) s.cpu.p)
      cpu := { s.cpu with
        sp := s.cpu.sp - 1 - 1 - 1
        p := setFlag bitI true s.cpu.p
        pc := vectorTarget k s.cart }
      cycles := 7 } := by
  have h : 0x8000 ≤ (vector k).toNat ∧ 0x8000 ≤ (vector k + 1).toNat := by cases k <;> decide
  simp only [enterInterrupt, pushAddr, push_eq, readPair_prg h.1 h.2, setP, setPc, setCycles,
    vectorTarget]

/-- RETURNING FROM AN EXCEPTION in closed form (R203, R291). -/
theorem returnFromInterrupt_eq (s : State) :
    returnFromInterrupt s = { s with
      cpu := { s.cpu with
        sp := s.cpu.sp + 1 + 1 + 1
        p := unpackP (readCell s.ram (stackIndex (s.cpu.sp + 1)))
        pc := readCell s.ram (stackIndex (s.cpu.sp + 1 + 1 + 1))
          ++ readCell s.ram (stackIndex (s.cpu.sp + 1 + 1)) } } := by
  simp only [returnFromInterrupt, pop_eq, setP, setPc, setSp]

/-! ## What an access reads does not depend on -/

/-- A read sees RAM, the picture unit, the cartridge, the parameters and the environment's answers. -/
theorem busRead_val_congr {s t : State} (a : Addr) (h1 : s.ram = t.ram) (h2 : s.ppu = t.ppu)
    (h3 : s.cart = t.cart) (h4 : s.cfg = t.cfg) (h5 : s.extIn = t.extIn)
    (h6 : s.extReads = t.extReads) : (busRead a s).1 = (busRead a t).1 := by
  unfold busRead ppuRegRead readStatus readOamData readData readDataBuffered readDataImmediate extRead
  simp only [h1, h2, h3, h4, h5, h6]
  repeat' split
  all_goals rfl

/-- A read commutes with changes of the CPU's registers and of the cycle count. -/
theorem busRead_with (a : Addr) (c : Cpu) (n : Nat) (s : State) :
    busRead a { s with cpu := c, cycles := n } =
      ((busRead a s).1, { (busRead a s).2 with cpu := c, cycles := n }) := by
  unfold busRead ppuRegRead readStatus readOamData readData readDataBuffered readDataImmediate extRead
  dsimp only
  repeat' split
  all_goals rfl

@[simp] theorem busRead_setCycles_val (a : Addr) (n : Nat) (s : State) :
    (busRead a (setCycles n s)).1 = (busRead a s).1 := by
  simpa [setCycles] using congrArg Prod.fst (busRead_with a s.cpu n s)

@[simp] theorem busRead_setCycles_state (a : Addr) (n : Nat) (s : State) :
    (busRead a (setCycles n s)).2 = setCycles n (busRead a s).2 := by
  simpa [setCycles] using congrArg Prod.snd (busRead_with a s.cpu n s)

end Sys2Proof.Machine
end

