-- ==== Sys2Proof/Laws/Video.lean ====
section
/-! SUPPORT. What the picture unit's registers can change (spec/61_picture_unit.md section 2), the bits of a
replaced field, and the memory map's indices within the sizes of spec/10_state.md R26. -/

namespace Sys2Proof.Machine

/-! ## Fields -/

/-- The bits of a word whose field at `lo` was replaced. -/
theorem getLsbD_putField {n k : Nat} (v : BitVec n) (lo : Nat) (f : BitVec k) (j : Nat) :
    (putField v lo f).getLsbD j =
      (decide (j < n) && if lo ≤ j ∧ j < lo + k then f.getLsbD (j - lo) else v.getLsbD j) := by
  unfold putField
  by_cases hj : j < n
  · by_cases hlo : lo ≤ j
    · by_cases hk : j < lo + k
      · have h1 : ¬ j < lo := by omega
        have h2 : j - lo < n := by omega
        have h3 : j - lo < k := by omega
        simp [hj, hlo, hk, h1, h3]
      · have h1 : ¬ j < lo := by omega
        have h2 : j - lo < n := by omega
        have h3 : ¬ j - lo < k := by omega
        have h4 : f.getLsbD (j - lo) = false := BitVec.getLsbD_of_ge _ _ (by omega)
        simp [hj, hlo, hk, h1, h3, h4]
    · have h1 : j < lo := by omega
      have h2 : ¬ (lo ≤ j ∧ j < lo + k) := by omega
      simp [hj, h1, h2]
  · have h4 : v.getLsbD j = false := BitVec.getLsbD_of_ge _ _ (by omega)
    simp [hj, h4]

/-! ## Reads of the registers -/

/-- A register read changes at most the vertical-blank flag, the latch, v and the read buffer (R326, R332). -/
theorem ppuRegRead_ppu (n : BitVec 3) (s : State) :
    (ppuRegRead n s).2.ppu = { s.ppu with
      vblank := (ppuRegRead n s).2.ppu.vblank
      w := (ppuRegRead n s).2.ppu.w
      v := (ppuRegRead n s).2.ppu.v
      readBuffer := (ppuRegRead n s).2.ppu.readBuffer } := by
  unfold ppuRegRead readData readDataBuffered readDataImmediate
  dsimp only
  repeat' split
  all_goals rfl

/-! ## Writes of the registers -/

/-- `q` is `p` but for the registers' own fields and the three memories: the position, the status flags, the
pipeline and the frame buffer are `p`'s. -/
def RegisterFrame (p q : Ppu) : Prop :=
  q = { p with
    ctrl := q.ctrl, mask := q.mask, oamAddr := q.oamAddr, v := q.v, t := q.t, x := q.x, w := q.w
    nt := q.nt, pal := q.pal, oam := q.oam }

theorem ppuWrite_frame (a : VAddr) (d : Byte) (s : State) : RegisterFrame s.ppu (ppuWrite a d s).ppu := by
  unfold ppuWrite RegisterFrame
  split
  · rfl
  · split <;> rfl

theorem writeScroll_frame (d : Byte) (p : Ppu) : RegisterFrame p (writeScroll d p) := by
  unfold writeScroll RegisterFrame
  cases p.w <;> rfl

theorem writeAddress_frame (d : Byte) (p : Ppu) : RegisterFrame p (writeAddress d p) := by
  unfold writeAddress RegisterFrame
  cases p.w <;> rfl

theorem incV_frame {p q : Ppu} (h : RegisterFrame p q) : RegisterFrame p (incV q) := by
  cases p
  cases q
  simp_all [RegisterFrame, incV]

theorem writeData_frame (d : Byte) (s : State) : RegisterFrame s.ppu (writeData d s).ppu :=
  incV_frame (ppuWrite_frame (dataAddr s.ppu) d s)

/-- What a register write can change of the picture unit (R325). -/
theorem ppuRegWrite_frame (n : BitVec 3) (d : Byte) (s : State) :
    RegisterFrame s.ppu (ppuRegWrite n d s).ppu := by
  unfold ppuRegWrite
  split
  · rfl
  split
  · rfl
  split
  · rfl
  split
  · rfl
  split
  · rfl
  split
  · exact writeScroll_frame d s.ppu
  split
  · exact writeAddress_frame d s.ppu
  · exact writeData_frame d s

/-- Only registers 4 and 7 change the three memories and the cartridge (R329, R333). -/
theorem ppuRegWrite_memories {n : BitVec 3} (h4 : n ≠ 4) (h7 : n ≠ 7) (d : Byte) (s : State) :
    (ppuRegWrite n d s).cart = s.cart ∧ (ppuRegWrite n d s).ppu.nt = s.ppu.nt
      ∧ (ppuRegWrite n d s).ppu.pal = s.ppu.pal ∧ (ppuRegWrite n d s).ppu.oam = s.ppu.oam := by
  have h : n = 0 ∨ n = 1 ∨ n = 2 ∨ n = 3 ∨ n = 5 ∨ n = 6 := by bv_omega
  rcases h with rfl | rfl | rfl | rfl | rfl | rfl
  · exact ⟨rfl, rfl, rfl, rfl⟩
  · exact ⟨rfl, rfl, rfl, rfl⟩
  · exact ⟨rfl, rfl, rfl, rfl⟩
  · exact ⟨rfl, rfl, rfl, rfl⟩
  · simp only [ppuRegWrite, writeScroll]; cases s.ppu.w <;> exact ⟨rfl, rfl, rfl, rfl⟩
  · simp only [ppuRegWrite, writeAddress]; cases s.ppu.w <;> exact ⟨rfl, rfl, rfl, rfl⟩

/-! ## Indices -/

theorem ntIndex_lt (m : Mirroring) (a : VAddr) : ntIndex m a < ntSize m := by
  cases m <;> simp only [ntIndex, ntSize] <;> omega

theorem palIndex_lt (a : VAddr) : palIndex a < 32 := by
  unfold palIndex; dsimp only; split <;> omega

/-- Reading the picture unit's memory sees the pattern memory, the nametables, the palette and the mirroring
(R320). -/
theorem ppuRead_congr {c c' : Cartridge} {p p' : Ppu} (hc : c'.chr = c.chr)
    (hm : c'.mirroring = c.mirroring) (hn : p'.nt = p.nt) (hp : p'.pal = p.pal) (a : VAddr) :
    ppuRead c' p' a = ppuRead c p a := by
  unfold ppuRead chrRead
  rw [hc, hm, hn, hp]

end Sys2Proof.Machine
end

