-- ==== Sys2Proof/Laws/Operands.lean ====
section
/-! SUPPORT. What addressing can do (spec/40_step_addressing.md R106 to R119) and the access classes of R105 in
closed form, for operations that change only the CPU's registers. -/

namespace Sys2Proof.Machine

/-! ## What reading leaves of the picture unit's memories -/

/-- A bus read changes at most four fields of the picture unit. -/
theorem busRead_ppu (a : Addr) (s : State) :
    (busRead a s).2.ppu = { s.ppu with
      vblank := (busRead a s).2.ppu.vblank
      w := (busRead a s).2.ppu.w
      v := (busRead a s).2.ppu.v
      readBuffer := (busRead a s).2.ppu.readBuffer } := by
  unfold busRead
  split
  · rfl
  split
  · exact ppuRegRead_ppu _ s
  split
  · rw [extRead_ppu]
  split <;> rfl

@[simp] theorem busRead_nt (a : Addr) (s : State) : (busRead a s).2.ppu.nt = s.ppu.nt := by
  rw [busRead_ppu]
@[simp] theorem busRead_pal (a : Addr) (s : State) : (busRead a s).2.ppu.pal = s.ppu.pal := by
  rw [busRead_ppu]
@[simp] theorem busRead_oam (a : Addr) (s : State) : (busRead a s).2.ppu.oam = s.ppu.oam := by
  rw [busRead_ppu]
@[simp] theorem busRead_oamAddr (a : Addr) (s : State) : (busRead a s).2.ppu.oamAddr = s.ppu.oamAddr := by
  rw [busRead_ppu]

/-- A storage address reads RAM or program memory, and changes nothing (R46, R55). -/
theorem busRead_storage {a : Addr} (h : holdsCode a = true) (s : State) :
    busRead a s =
      (if a.toNat ≤ 0x1FFF then readCell s.ram (ramIndex a) else readCell s.cart.prg (prgIndex s.cart a), s) := by
  unfold holdsCode at h
  by_cases h1 : a.toNat ≤ 0x1FFF
  · rw [busRead_inRam h1, if_pos h1]
  · have h2 : 0x8000 ≤ a.toNat := by simpa [h1] using h
    rw [busRead_prg h2, if_neg h1]

/-! ## Addressing -/

theorem zeroPage_toNat (b : Byte) : (zeroPage b).toNat = b.toNat := by
  unfold zeroPage
  rw [BitVec.toNat_setWidth]
  have := b.isLt
  omega

theorem ramIndex_zeroPage (b : Byte) : ramIndex (zeroPage b) = b.toNat := by
  unfold ramIndex
  rw [zeroPage_toNat]
  have := b.isLt
  omega

/-- A pointer in page 0, in closed form (R116, R117). -/
theorem readPair_zeroPage (a b : Byte) (s : State) :
    readPair (zeroPage a) (zeroPage b) s = (readCell s.ram b.toNat ++ readCell s.ram a.toNat, s) := by
  rw [readPair_ram (by rw [zeroPage_toNat]; have := a.isLt; omega)
    (by rw [zeroPage_toNat]; have := b.isLt; omega), ramIndex_zeroPage, ramIndex_zeroPage]

/-- No mode but the indirect jump's changes the state: a pointer in page 0 is read from RAM. -/
theorem resolve_state {m : Mode} (h : ∀ p, m ≠ .ind p) (s : State) : (resolve m s).state = s := by
  cases m with
  | ind p => exact absurd rfl (h p)
  | izx op => simp [resolve, readPair_zeroPage]
  | izy op => simp [resolve, indexed, readPair_zeroPage]
  | _ => rfl

/-- Addressing does not see the cycle count. -/
theorem resolve_setCycles (n : Nat) (m : Mode) (s : State) :
    resolve m (setCycles n s) =
      { ea := (resolve m s).ea, crossed := (resolve m s).crossed, state := setCycles n (resolve m s).state } := by
  cases m with
  | izx op => simp [resolve, readPair_zeroPage]
  | izy op => simp [resolve, indexed, readPair_zeroPage]
  | ind p => simp [resolve, readPair]
  | _ => rfl

/-- Class `read` in closed form. -/
theorem readInstr_eq {op : Byte → State → State} (f : Byte → Cpu → Cpu)
    (hop : ∀ v u, op v u = { u with cpu := f v u.cpu }) (base : Nat) (pen : Bool) (m : Mode) (s : State) :
    readInstr base pen m op s = { (busRead (resolve m s).ea (resolve m s).state).2 with
      cpu := f (busRead (resolve m s).ea (resolve m s).state).1 (resolve m s).state.cpu
      cycles := base + (if pen && (resolve m s).crossed then 1 else 0) } := by
  unfold readInstr chargeCross
  simp only [resolve_setCycles, busRead_setCycles_val, busRead_setCycles_state, hop]
  cases h : pen && (resolve m s).crossed <;> simp [setCycles, addCycles, busRead_cpu]

/-- Class `read`, immediate, in closed form. -/
theorem immInstr_eq {op : Byte → State → State} (f : Byte → Cpu → Cpu)
    (hop : ∀ v u, op v u = { u with cpu := f v u.cpu }) (base : Nat) (b : Byte) (s : State) :
    immInstr base b op s = { s with cpu := f b s.cpu, cycles := base } := by
  unfold immInstr
  rw [hop]
  rfl

/-- Classes `reg` and `none` in closed form. -/
theorem regInstr_eq {op : State → State} (f : Cpu → Cpu)
    (hop : ∀ u, op u = { u with cpu := f u.cpu }) (base : Nat) (s : State) :
    regInstr base op s = { s with cpu := f s.cpu, cycles := base } := by
  unfold regInstr
  rw [hop]
  rfl

end Sys2Proof.Machine
end

