-- ==== Sys2Proof/Laws/Writes.lean ====
section
/-! SUPPORT. What a bus write can change (spec/20_memory.md R43, R46, R52, R56, R57, R60, R61), field by field,
and the classes `write` and `rmw` of R105 in closed form. -/

namespace Sys2Proof.Machine

/-! ## The sprite DMA controller -/

/-- What a transfer can change of the picture unit: what its reads can, and the sprite memory (R62). -/
def DmaFrame (p q : Ppu) : Prop :=
  q = { p with
    vblank := q.vblank, w := q.w, v := q.v, readBuffer := q.readBuffer, oam := q.oam, oamAddr := q.oamAddr }

theorem dmaBytes_frame (page : Byte) (n : Nat) (s : State) : DmaFrame s.ppu (dmaBytes page n s).ppu := by
  induction n with
  | zero => rfl
  | succ n ih =>
    have h := busRead_ppu (page ++ BitVec.ofNat 8 n) (dmaBytes page n s)
    unfold DmaFrame at ih ⊢
    unfold dmaBytes dmaByte writeOamData
    dsimp only
    rw [h, ih]

/-- Each byte moves `oam_addr` on by one (R60). -/
theorem dmaBytes_oamAddr (page : Byte) (n : Nat) (s : State) :
    (dmaBytes page n s).ppu.oamAddr = s.ppu.oamAddr + BitVec.ofNat 8 n := by
  induction n with
  | zero => simp [dmaBytes]
  | succ n ih =>
    simp only [dmaBytes, dmaByte, writeOamData, busRead_oamAddr, ih]
    rw [BitVec.add_assoc]
    congr 1
    rw [← BitVec.ofNat_add_ofNat]
    rfl

/-- A transfer from a RAM page, in closed form: `oam` becomes the list of its writes (R60). -/
def dmaOam (page : Byte) (s : State) : Nat → Memory
  | 0 => s.ppu.oam
  | n + 1 => writeCell (dmaOam page s n) (s.ppu.oamAddr + BitVec.ofNat 8 n).toNat
      (readCell s.ram (ramIndex (page ++ BitVec.ofNat 8 n)))

theorem page_toNat (page i : Byte) : (page ++ i).toNat = 256 * page.toNat + i.toNat := by
  rw [BitVec.toNat_append, Nat.shiftLeft_eq, Nat.mul_comm, show 2 ^ 8 = 256 from rfl]
  have := i.isLt
  rw [show 256 = 2 ^ 8 from rfl, ← Nat.two_pow_add_eq_or_of_lt this]

theorem dmaBytes_fromRam {page : Byte} (h : page.toNat < 0x20) (n : Nat) (s : State) :
    dmaBytes page n s = { s with
      ppu := { s.ppu with oam := dmaOam page s n, oamAddr := s.ppu.oamAddr + BitVec.ofNat 8 n } } := by
  induction n with
  | zero => simp [dmaBytes, dmaOam]
  | succ n ih =>
    have hp : (page ++ BitVec.ofNat 8 n).toNat ≤ 0x1FFF := by
      rw [page_toNat]
      have := (BitVec.ofNat 8 n).isLt
      omega
    have e : s.ppu.oamAddr + BitVec.ofNat 8 n + 1 = s.ppu.oamAddr + BitVec.ofNat 8 (n + 1) := by
      rw [BitVec.add_assoc]
      congr 1
      rw [← BitVec.ofNat_add_ofNat]
      rfl
    rw [dmaBytes, dmaByte, ih, busRead_inRam hp]
    simp only [writeOamData, e, dmaOam]

/-! ## A write's effect on each field -/

/-- The cycles a write adds: a transfer's, or none (R61). -/
theorem busWrite_cycles (a : Addr) (v : Byte) (s : State) :
    (busWrite a v s).cycles = s.cycles + (if a.toNat = 0x4014 then dmaCost s.cyc else 0) := by
  unfold busWrite
  by_cases h1 : a.toNat ≤ 0x1FFF
  · rw [if_pos h1, if_neg (by omega)]; rfl
  rw [if_neg h1]
  by_cases h2 : a.toNat ≤ 0x3FFF
  · rw [if_pos h2, if_neg (by omega)]; simp
  rw [if_neg h2]
  by_cases h3 : a.toNat = 0x4014
  · rw [if_pos h3, if_pos h3]; simp
  rw [if_neg h3, if_neg h3]
  split <;> simp [extWrite]

/-- The RAM a write leaves (R46). -/
theorem busWrite_ramContent (a : Addr) (v : Byte) (s : State) :
    (busWrite a v s).ram = if a.toNat ≤ 0x1FFF then writeCell s.ram (ramIndex a) v else s.ram := by
  unfold busWrite
  by_cases h1 : a.toNat ≤ 0x1FFF
  · rw [if_pos h1, if_pos h1]
  rw [if_neg h1, if_neg h1]
  by_cases h2 : a.toNat ≤ 0x3FFF
  · rw [if_pos h2]; simp
  rw [if_neg h2]
  by_cases h3 : a.toNat = 0x4014
  · rw [if_pos h3]; simp
  rw [if_neg h3]
  split <;> rfl

/-- A write elsewhere than to registers 4 and 7 and the DMA trigger leaves the picture unit's memories and the
cartridge. -/
theorem busWrite_memories {a : Addr} (hd : a.toNat ≠ 0x4014)
    (hr : ¬ (0x2000 ≤ a.toNat ∧ a.toNat ≤ 0x3FFF ∧ (a.toNat % 8 = 4 ∨ a.toNat % 8 = 7)))
    (v : Byte) (s : State) :
    (busWrite a v s).cart = s.cart ∧ (busWrite a v s).ppu.nt = s.ppu.nt
      ∧ (busWrite a v s).ppu.pal = s.ppu.pal ∧ (busWrite a v s).ppu.oam = s.ppu.oam := by
  unfold busWrite
  by_cases h1 : a.toNat ≤ 0x1FFF
  · rw [if_pos h1]; exact ⟨rfl, rfl, rfl, rfl⟩
  rw [if_neg h1]
  by_cases h2 : a.toNat ≤ 0x3FFF
  · rw [if_pos h2]
    have e : (a.setWidth 3).toNat = a.toNat % 8 := by rw [BitVec.toNat_setWidth]
    apply ppuRegWrite_memories
    · intro h
      rw [h] at e
      exact hr ⟨by omega, h2, .inl e.symm⟩
    · intro h
      rw [h] at e
      exact hr ⟨by omega, h2, .inr e.symm⟩
  rw [if_neg h2, if_neg hd]
  split <;> exact ⟨rfl, rfl, rfl, rfl⟩

/-! ## A write does not see the CPU's registers or the cycle count -/

theorem dmaBytes_with (page : Byte) (n : Nat) (c : Cpu) (k : Nat) (s : State) :
    dmaBytes page n { s with cpu := c, cycles := k } = { dmaBytes page n s with cpu := c, cycles := k } := by
  induction n with
  | zero => rfl
  | succ n ih => simp only [dmaBytes, dmaByte, ih, busRead_with]

theorem writeData_with (d : Byte) (c : Cpu) (k : Nat) (s : State) :
    writeData d { s with cpu := c, cycles := k } = { writeData d s with cpu := c, cycles := k } := by
  unfold writeData ppuWrite
  dsimp only
  by_cases h1 : (dataAddr s.ppu).toNat ≤ 0x1FFF
  · rw [if_pos h1, if_pos h1]
  rw [if_neg h1, if_neg h1]
  by_cases h2 : (dataAddr s.ppu).toNat ≤ 0x3EFF
  · rw [if_pos h2, if_pos h2]
  · rw [if_neg h2, if_neg h2]

theorem ppuRegWrite_with (n : BitVec 3) (d : Byte) (c : Cpu) (k : Nat) (s : State) :
    ppuRegWrite n d { s with cpu := c, cycles := k } = { ppuRegWrite n d s with cpu := c, cycles := k } := by
  have h : n = 0 ∨ n = 1 ∨ n = 2 ∨ n = 3 ∨ n = 4 ∨ n = 5 ∨ n = 6 ∨ n = 7 := by bv_omega
  rcases h with rfl | rfl | rfl | rfl | rfl | rfl | rfl | rfl
  · rfl
  · rfl
  · rfl
  · rfl
  · rfl
  · rfl
  · rfl
  · exact writeData_with d c k s

theorem busWrite_with (a : Addr) (v : Byte) (c : Cpu) (k : Nat) (s : State) :
    busWrite a v { s with cpu := c, cycles := k } =
      { busWrite a v s with
        cpu := c, cycles := k + (if a.toNat = 0x4014 then dmaCost s.cyc else 0) } := by
  unfold busWrite
  by_cases h1 : a.toNat ≤ 0x1FFF
  · rw [if_pos h1, if_pos h1, if_neg (by omega)]; rfl
  rw [if_neg h1, if_neg h1]
  by_cases h2 : a.toNat ≤ 0x3FFF
  · rw [if_pos h2, if_pos h2, if_neg (by omega), ppuRegWrite_with]; rfl
  rw [if_neg h2, if_neg h2]
  by_cases h3 : a.toNat = 0x4014
  · rw [if_pos h3, if_pos h3, if_pos h3]
    simp only [oamDma, dmaBytes_with, addCycles]
  rw [if_neg h3, if_neg h3, if_neg h3]
  split <;> rfl

theorem busWrite_setCycles (a : Addr) (v : Byte) (k : Nat) (s : State) :
    busWrite a v (setCycles k s) =
      { busWrite a v s with cycles := k + (if a.toNat = 0x4014 then dmaCost s.cyc else 0) } := by
  have h := busWrite_with a v s.cpu k s
  have e : (busWrite a v s).cpu = s.cpu := busWrite_cpu a v s
  rw [show setCycles k s = { s with cpu := s.cpu, cycles := k } from rfl, h, ← e]

/-! ## Classes `write` and `rmw` -/

/-- Class `write` in closed form. -/
theorem writeInstr_eq (base : Nat) (m : Mode) (val : Cpu → Byte) (s : State) :
    writeInstr base m val s =
      { busWrite (resolve m s).ea (val (resolve m s).state.cpu) (resolve m s).state with
        cycles := base + (if (resolve m s).ea.toNat = 0x4014 then dmaCost (resolve m s).state.cyc else 0) } := by
  unfold writeInstr
  simp only [resolve_setCycles, setCycles_cpu, busWrite_setCycles]

/-- Class `rmw` in closed form, for an operation that then changes only the CPU's registers. -/
theorem rmwInstr_eq {fin : Byte → Byte → State → State} (f : Byte → Byte → Cpu → Cpu)
    (hfin : ∀ m r u, fin m r u = { u with cpu := f m r u.cpu }) (base : Nat) (m : Mode)
    (res : Byte → Byte → Byte) (s : State) :
    rmwInstr base m res fin s =
      (let e := resolve m s
       let r := busRead e.ea e.state
       { busWrite e.ea (res r.1 e.state.cpu.p) r.2 with
         cpu := f r.1 (res r.1 e.state.cpu.p) e.state.cpu
         cycles := base + (if e.ea.toNat = 0x4014 then dmaCost e.state.cyc else 0) }) := by
  unfold rmwInstr
  simp only [resolve_setCycles, busRead_setCycles_val, busRead_setCycles_state, busWrite_setCycles, hfin,
    setCycles_cpu, busRead_cpu, busWrite_cpu, busRead_cyc]

end Sys2Proof.Machine
end

