-- ==== Sys2Proof/Laws/Moves.lean ====
section
/-! SUPPORT. Everything an instruction or an interrupt entry can do to the machine, said once: it reads the
bus, writes the bus, and writes the CPU's registers and the cycle count, in some order; the NMI edge detector
is none of those registers. What holds of each of these three moves holds of every instruction. -/

namespace Sys2Proof.Machine

/-! ## The status byte keeps its form -/

@[simp] theorem statusOk_setFlag {i : Nat} (b : Bool) (p : Byte) (hi : i < 4 ∨ (6 ≤ i ∧ i < 8)) :
    statusOk (setFlag i b p) = statusOk p := by
  unfold statusOk
  rw [flag_setFlag _ _ _ _ (by omega), flag_setFlag _ _ _ _ (by omega), if_neg (by unfold bitU; omega),
    if_neg (by unfold bitB; omega)]

@[simp] theorem statusOk_setNZ (v p : Byte) : statusOk (setNZ v p) = statusOk p := by
  unfold setNZ
  rw [statusOk_setFlag _ _ (by decide), statusOk_setFlag _ _ (by decide)]

@[simp] theorem statusOk_addFlags (a m p : Byte) : statusOk (addFlags a m p) = statusOk p := by
  unfold addFlags
  rw [statusOk_setNZ, statusOk_setFlag _ _ (by decide), statusOk_setFlag _ _ (by decide)]

@[simp] theorem statusOk_compareFlags (r m p : Byte) : statusOk (compareFlags r m p) = statusOk p := by
  unfold compareFlags
  rw [statusOk_setNZ, statusOk_setFlag _ _ (by decide)]

@[simp] theorem statusOk_bitFlags (a m p : Byte) : statusOk (bitFlags a m p) = statusOk p := by
  unfold bitFlags
  rw [statusOk_setFlag _ _ (by decide), statusOk_setFlag _ _ (by decide), statusOk_setFlag _ _ (by decide)]

@[simp] theorem statusOk_shiftFlags (c : Bool) (r p : Byte) : statusOk (shiftFlags c r p) = statusOk p := by
  unfold shiftFlags
  rw [statusOk_setNZ, statusOk_setFlag _ _ (by decide)]

@[simp] theorem statusOk_arrFlags (r p : Byte) : statusOk (arrFlags r p) = statusOk p := by
  unfold arrFlags
  rw [statusOk_setFlag _ _ (by decide), statusOk_setFlag _ _ (by decide), statusOk_setNZ]

@[simp] theorem statusOk_unpackP (v : Byte) : statusOk (unpackP v) = true := by
  unfold statusOk flag
  rw [getLsbD_unpackP, getLsbD_unpackP]
  rfl

/-! ## The moves -/

/-- The registers `d` follow `c`: the edge detector is the same, and P keeps its form. -/
def RegsOk (c d : Cpu) : Prop := d.nmiPrev = c.nmiPrev ∧ (statusOk c.p = true → statusOk d.p = true)

theorem RegsOk.refl (c : Cpu) : RegsOk c c := ⟨rfl, id⟩

theorem RegsOk.trans {c d e : Cpu} (h : RegsOk c d) (h' : RegsOk d e) : RegsOk c e :=
  ⟨h'.1.trans h.1, h'.2 ∘ h.2⟩

/-- `t` comes from `s` by bus reads, bus writes, and writes of the CPU's registers and the cycle count. -/
inductive Moves (s : State) : State → Prop
  | start : Moves s s
  | read (a : Addr) {t : State} : Moves s t → Moves s (busRead a t).2
  | write (a : Addr) (v : Byte) {t : State} : Moves s t → Moves s (busWrite a v t)
  | regs (c : Cpu) (n : Nat) {t : State} : Moves s t → RegsOk t.cpu c → Moves s { t with cpu := c, cycles := n }

namespace Moves

variable {s t u : State}

theorem trans (h : Moves s t) (h' : Moves t u) : Moves s u := by
  induction h' with
  | start => exact h
  | read a _ ih => exact .read a ih
  | write a v _ ih => exact .write a v ih
  | regs c n _ hr ih => exact .regs c n ih hr

theorem setCycles (n : Nat) (h : Moves s t) : Moves s (setCycles n t) := .regs t.cpu n h (.refl _)

theorem addCycles (n : Nat) (h : Moves s t) : Moves s (addCycles n t) := .regs t.cpu _ h (.refl _)

theorem cpu {c : Cpu} (h : Moves s t) (hr : RegsOk t.cpu c) : Moves s { t with cpu := c } :=
  .regs c t.cycles h hr

theorem setPc (v : Addr) (h : Moves s t) : Moves s (setPc v t) := h.cpu ⟨rfl, id⟩

theorem setSp (v : Byte) (h : Moves s t) : Moves s (setSp v t) := h.cpu ⟨rfl, id⟩

theorem setP {v : Byte} (h : Moves s t) (hv : statusOk t.cpu.p = true → statusOk v = true) :
    Moves s (setP v t) := h.cpu ⟨rfl, hv⟩

theorem push (v : Byte) (h : Moves s t) : Moves s (push v t) := (h.write _ v).setSp _

theorem pop (h : Moves s t) : Moves s (pop t).2 := (h.setSp _).read _

theorem pushAddr (a : Addr) (h : Moves s t) : Moves s (pushAddr a t) := (h.push _).push _

theorem readPair (a b : Addr) (h : Moves s t) : Moves s (readPair a b t).2 := (h.read a).read b

theorem resolve (m : Mode) (h : Moves s t) : Moves s (resolve m t).state := by
  cases m with
  | ind p => exact h.readPair _ _
  | izx b => exact h.readPair _ _
  | izy b => exact h.readPair _ _
  | _ => exact h

/-- Taking an interrupt (R288). -/
theorem enterInterrupt (k : Interrupt) (h : Moves s t) : Moves s (enterInterrupt k t) := by
  have h2 := (h.pushAddr (returnAddr k t.cpu.pc)).push
    (packP (breakBit k) (Machine.pushAddr (returnAddr k t.cpu.pc) t).cpu.p)
  exact (((h2.setP fun e => by rw [statusOk_setFlag _ _ (by decide)]; exact e).readPair _ _).setPc _).setCycles _

/-- Returning from one (R203). -/
theorem returnFromInterrupt (h : Moves s t) : Moves s (returnFromInterrupt t) :=
  (((h.pop).setP fun _ => statusOk_unpackP _).pop.pop).setPc _

end Moves

/-! ## The classes of instructions -/

/-- An operation that writes nothing but the CPU's registers. -/
def RegisterOp (op : State → State) : Prop :=
  ∀ u, op u = { u with cpu := (op u).cpu } ∧ RegsOk u.cpu (op u).cpu

theorem moves_op {op : State → State} (hop : RegisterOp op) {s t : State} (h : Moves s t) : Moves s (op t) := by
  rw [(hop t).1]
  exact h.cpu (hop t).2

theorem readInstr_moves {op : Byte → State → State} (hop : ∀ v, RegisterOp (op v)) (base : Nat) (pen : Bool)
    (m : Mode) (s : State) : Moves s (readInstr base pen m op s) := by
  have h := ((Moves.start (s := s)).setCycles base).resolve m
  have h' := moves_op (hop (busRead (resolve m (setCycles base s)).ea (resolve m (setCycles base s)).state).1)
    (h.read (resolve m (setCycles base s)).ea)
  unfold readInstr chargeCross
  by_cases hc : (pen && (resolve m (setCycles base s)).crossed) = true
  · simp only [hc, if_true]
    exact h'.addCycles 1
  · simp only [hc]
    exact h'

theorem immInstr_moves {op : Byte → State → State} (hop : ∀ v, RegisterOp (op v)) (base : Nat) (b : Byte)
    (s : State) : Moves s (immInstr base b op s) := moves_op (hop b) (Moves.start.setCycles base)

theorem writeInstr_moves (base : Nat) (m : Mode) (val : Cpu → Byte) (s : State) :
    Moves s (writeInstr base m val s) := ((Moves.start.setCycles base).resolve m).write _ _

theorem rmwInstr_moves {fin : Byte → Byte → State → State} (hfin : ∀ m r, RegisterOp (fin m r)) (base : Nat)
    (m : Mode) (res : Byte → Byte → Byte) (s : State) : Moves s (rmwInstr base m res fin s) :=
  moves_op (hfin _ _) ((((Moves.start.setCycles base).resolve m).read _).write _ _)

theorem resolveInstr_moves (base : Nat) (m : Mode) (s : State) : Moves s (resolveInstr base m s) :=
  (Moves.start.setCycles base).resolve m

theorem regInstr_moves {op : State → State} (hop : RegisterOp op) (base : Nat) (s : State) :
    Moves s (regInstr base op s) := moves_op hop (Moves.start.setCycles base)

theorem jumpInstr_moves (base : Nat) (m : Mode) (s : State) : Moves s (jumpInstr base m s) :=
  ((Moves.start.setCycles base).resolve m).setPc _

theorem branchInstr_moves (taken : Byte → Bool) (off : Byte) (s : State) : Moves s (branchInstr taken off s) := by
  have h : Moves s (setCycles 2 s) := Moves.start.setCycles 2
  unfold branchInstr
  dsimp only
  split
  · exact (h.addCycles _).setPc _
  · exact h

/-! ## The operations -/

theorem registerOp_loadA (f : State → Byte) : RegisterOp fun u => loadA (f u) u :=
  fun u => ⟨rfl, rfl, fun h => (statusOk_setNZ (f u) u.cpu.p).trans h⟩

theorem registerOp_loadX (f : State → Byte) : RegisterOp fun u => loadX (f u) u :=
  fun u => ⟨rfl, rfl, fun h => (statusOk_setNZ (f u) u.cpu.p).trans h⟩

theorem registerOp_loadY (f : State → Byte) : RegisterOp fun u => loadY (f u) u :=
  fun u => ⟨rfl, rfl, fun h => (statusOk_setNZ (f u) u.cpu.p).trans h⟩

theorem registerOp_setFlag (i : Nat) (b : Bool) (hi : i < 4 ∨ (6 ≤ i ∧ i < 8)) :
    RegisterOp fun u => setP (setFlag i b u.cpu.p) u :=
  fun u => ⟨rfl, rfl, fun h => (statusOk_setFlag b u.cpu.p hi).trans h⟩

theorem registerOp_setSp (f : State → Byte) : RegisterOp fun u => setSp (f u) u := fun _ => ⟨rfl, rfl, id⟩

theorem registerOp_opAnd (m : Byte) : RegisterOp (opAnd m) := registerOp_loadA fun u => u.cpu.a &&& m

theorem registerOp_opOra (m : Byte) : RegisterOp (opOra m) := registerOp_loadA fun u => u.cpu.a ||| m

theorem registerOp_opEor (m : Byte) : RegisterOp (opEor m) := registerOp_loadA fun u => u.cpu.a ^^^ m

theorem registerOp_loadA_operand (m : Byte) : RegisterOp (loadA m) := registerOp_loadA fun _ => m

theorem registerOp_loadX_operand (m : Byte) : RegisterOp (loadX m) := registerOp_loadX fun _ => m

theorem registerOp_loadY_operand (m : Byte) : RegisterOp (loadY m) := registerOp_loadY fun _ => m

theorem registerOp_opTax : RegisterOp opTax := registerOp_loadX fun u => u.cpu.a

theorem registerOp_opTay : RegisterOp opTay := registerOp_loadY fun u => u.cpu.a

theorem registerOp_opTxa : RegisterOp opTxa := registerOp_loadA fun u => u.cpu.x

theorem registerOp_opTya : RegisterOp opTya := registerOp_loadA fun u => u.cpu.y

theorem registerOp_opTsx : RegisterOp opTsx := registerOp_loadX fun u => u.cpu.sp

theorem registerOp_opInx : RegisterOp opInx := registerOp_loadX fun u => u.cpu.x + 1

theorem registerOp_opIny : RegisterOp opIny := registerOp_loadY fun u => u.cpu.y + 1

theorem registerOp_opDex : RegisterOp opDex := registerOp_loadX fun u => u.cpu.x - 1

theorem registerOp_opDey : RegisterOp opDey := registerOp_loadY fun u => u.cpu.y - 1

theorem registerOp_opTxs : RegisterOp opTxs := registerOp_setSp fun u => u.cpu.x

theorem registerOp_opClc : RegisterOp opClc := registerOp_setFlag 0 false (by decide)

theorem registerOp_opSec : RegisterOp opSec := registerOp_setFlag 0 true (by decide)

theorem registerOp_opCli : RegisterOp opCli := registerOp_setFlag 2 false (by decide)

theorem registerOp_opSei : RegisterOp opSei := registerOp_setFlag 2 true (by decide)

theorem registerOp_opClv : RegisterOp opClv := registerOp_setFlag 6 false (by decide)

theorem registerOp_opCld : RegisterOp opCld := registerOp_setFlag 3 false (by decide)

theorem registerOp_opSed : RegisterOp opSed := registerOp_setFlag 3 true (by decide)

theorem registerOp_addCore (m : Byte) : RegisterOp (addCore m) :=
  fun u => ⟨rfl, rfl, fun h => (statusOk_addFlags u.cpu.a m u.cpu.p).trans h⟩

theorem registerOp_opAdc (m : Byte) : RegisterOp (opAdc m) := registerOp_addCore m

theorem registerOp_opSbc (m : Byte) : RegisterOp (opSbc m) := registerOp_addCore (m ^^^ 0xFF)

theorem registerOp_opCmp (m : Byte) : RegisterOp (opCmp m) :=
  fun u => ⟨rfl, rfl, fun h => (statusOk_compareFlags u.cpu.a m u.cpu.p).trans h⟩

theorem registerOp_opCpx (m : Byte) : RegisterOp (opCpx m) :=
  fun u => ⟨rfl, rfl, fun h => (statusOk_compareFlags u.cpu.x m u.cpu.p).trans h⟩

theorem registerOp_opCpy (m : Byte) : RegisterOp (opCpy m) :=
  fun u => ⟨rfl, rfl, fun h => (statusOk_compareFlags u.cpu.y m u.cpu.p).trans h⟩

theorem registerOp_opBit (m : Byte) : RegisterOp (opBit m) :=
  fun u => ⟨rfl, rfl, fun h => (statusOk_bitFlags u.cpu.a m u.cpu.p).trans h⟩

theorem registerOp_shiftA (res : Byte → Byte → Byte) (out : Byte → Bool) : RegisterOp (shiftA res out) :=
  fun u => ⟨rfl, rfl, fun h => (statusOk_shiftFlags (out u.cpu.a) (res u.cpu.a u.cpu.p) u.cpu.p).trans h⟩

theorem registerOp_opAslA : RegisterOp opAslA := registerOp_shiftA _ _

theorem registerOp_opLsrA : RegisterOp opLsrA := registerOp_shiftA _ _

theorem registerOp_opRolA : RegisterOp opRolA := registerOp_shiftA _ _

theorem registerOp_opRorA : RegisterOp opRorA := registerOp_shiftA _ _

theorem registerOp_finIncDec (m r : Byte) : RegisterOp (finIncDec m r) :=
  fun u => ⟨rfl, rfl, fun h => (statusOk_setNZ r u.cpu.p).trans h⟩

theorem registerOp_finLeft (m r : Byte) : RegisterOp (finLeft m r) :=
  fun u => ⟨rfl, rfl, fun h => (statusOk_shiftFlags (outLeft m) r u.cpu.p).trans h⟩

theorem registerOp_finRight (m r : Byte) : RegisterOp (finRight m r) :=
  fun u => ⟨rfl, rfl, fun h => (statusOk_shiftFlags (outRight m) r u.cpu.p).trans h⟩

theorem registerOp_opLax (m : Byte) : RegisterOp (opLax m) :=
  fun u => ⟨rfl, rfl, fun h => (statusOk_setNZ m u.cpu.p).trans h⟩

theorem registerOp_opLas (m : Byte) : RegisterOp (opLas m) :=
  fun u => ⟨rfl, rfl, fun h => (statusOk_setNZ (m &&& u.cpu.sp) u.cpu.p).trans h⟩

theorem registerOp_setCarry (c : Bool) : RegisterOp (setCarry c) := registerOp_setFlag 0 c (by decide)

/-- Two register operations one after the other are one. -/
theorem RegisterOp.comp {f g : State → State} (hf : RegisterOp f) (hg : RegisterOp g) :
    RegisterOp fun u => g (f u) := by
  intro u
  have e1 := (hf u).1
  have e2 := (hg (f u)).1
  refine ⟨?_, (hf u).2.trans (hg (f u)).2⟩
  show g (f u) = { u with cpu := (g (f u)).cpu }
  generalize g (f u) = w at *
  rw [e2]
  generalize f u = v at *
  rw [e1]

theorem registerOp_finSlo (m r : Byte) : RegisterOp (finSlo m r) :=
  (registerOp_setCarry (outLeft m)).comp (registerOp_loadA fun u => u.cpu.a ||| r)

theorem registerOp_finRla (m r : Byte) : RegisterOp (finRla m r) :=
  (registerOp_setCarry (outLeft m)).comp (registerOp_loadA fun u => u.cpu.a &&& r)

theorem registerOp_finSre (m r : Byte) : RegisterOp (finSre m r) :=
  (registerOp_setCarry (outRight m)).comp (registerOp_loadA fun u => u.cpu.a ^^^ r)

theorem registerOp_finRra (m r : Byte) : RegisterOp (finRra m r) :=
  (registerOp_setCarry (outRight m)).comp (registerOp_addCore r)

theorem registerOp_opAnc (m : Byte) : RegisterOp (opAnc m) :=
  (registerOp_loadA fun u => u.cpu.a &&& m).comp fun u =>
    registerOp_setCarry (flag bitN u.cpu.p) u

theorem registerOp_opAlr (m : Byte) : RegisterOp (opAlr m) := fun u =>
  ⟨rfl, rfl, fun h => (statusOk_setNZ ((u.cpu.a &&& m) >>> 1) _).trans
    ((statusOk_setFlag ((u.cpu.a &&& m).getLsbD 0) u.cpu.p (by decide)).trans h)⟩

theorem registerOp_opArr (m : Byte) : RegisterOp (opArr m) :=
  fun u => ⟨rfl, rfl, fun h => (statusOk_arrFlags _ u.cpu.p).trans h⟩

theorem registerOp_opAxs (m : Byte) : RegisterOp (opAxs m) :=
  fun u => ⟨rfl, rfl, fun h => (statusOk_compareFlags _ m u.cpu.p).trans h⟩

theorem registerOp_finDcp (m r : Byte) : RegisterOp (finDcp m r) := registerOp_opCmp r

theorem registerOp_finIsc (m r : Byte) : RegisterOp (finIsc m r) := registerOp_opSbc r

theorem registerOp_discard (m : Byte) : RegisterOp (discard m) := fun _ => ⟨rfl, .refl _⟩

theorem registerOp_noOperation : RegisterOp noOperation := fun _ => ⟨rfl, .refl _⟩

/-! ## Every instruction -/

/-- An implied instruction that goes to the stack. -/
theorem stackInstr_moves {op : State → State} (hop : ∀ s t, Moves s t → Moves s (op t)) (base : Nat)
    (s : State) : Moves s (regInstr base op s) := hop _ _ (Moves.start.setCycles base)

theorem opPha_moves (s t : State) (h : Moves s t) : Moves s (opPha t) := h.push _

theorem opPhp_moves (s t : State) (h : Moves s t) : Moves s (opPhp t) := h.push _

theorem opPla_moves (s t : State) (h : Moves s t) : Moves s (opPla t) :=
  h.pop.cpu ⟨rfl, fun e => (statusOk_setNZ (pop t).1 (pop t).2.cpu.p).trans e⟩

theorem opPlp_moves (s t : State) (h : Moves s t) : Moves s (opPlp t) := h.pop.setP fun _ => statusOk_unpackP _

theorem callSub_moves (a : Addr) (s t : State) (h : Moves s t) : Moves s (callSub a t) := (h.pushAddr _).setPc _

theorem opRts_moves (s t : State) (h : Moves s t) : Moves s (opRts t) := h.pop.pop.setPc _

theorem opRti_moves (s t : State) (h : Moves s t) : Moves s (opRti t) := h.returnFromInterrupt

theorem opBrk_moves (s t : State) (h : Moves s t) : Moves s (opBrk t) := h.enterInterrupt .brk

/-- Every instruction has a next state, and it comes about by moves. -/
theorem exec_moves (i : Instr) (s : State) : ∃ t, exec i s = .next t ∧ Moves s t := by
  cases i <;> refine ⟨_, rfl, ?_⟩ <;> with_reducible first
    | exact readInstr_moves registerOp_loadA_operand _ _ _ _
    | exact readInstr_moves registerOp_loadX_operand _ _ _ _
    | exact readInstr_moves registerOp_loadY_operand _ _ _ _
    | exact readInstr_moves registerOp_opAdc _ _ _ _
    | exact readInstr_moves registerOp_opSbc _ _ _ _
    | exact readInstr_moves registerOp_opAnd _ _ _ _
    | exact readInstr_moves registerOp_opOra _ _ _ _
    | exact readInstr_moves registerOp_opEor _ _ _ _
    | exact readInstr_moves registerOp_opCmp _ _ _ _
    | exact readInstr_moves registerOp_opCpx _ _ _ _
    | exact readInstr_moves registerOp_opCpy _ _ _ _
    | exact readInstr_moves registerOp_opBit _ _ _ _
    | exact readInstr_moves registerOp_opLax _ _ _ _
    | exact readInstr_moves registerOp_opLas _ _ _ _
    | exact readInstr_moves registerOp_discard _ _ _ _
    | exact writeInstr_moves _ _ _ _
    | exact rmwInstr_moves registerOp_finIncDec _ _ _ _
    | exact rmwInstr_moves registerOp_finLeft _ _ _ _
    | exact rmwInstr_moves registerOp_finRight _ _ _ _
    | exact rmwInstr_moves registerOp_finSlo _ _ _ _
    | exact rmwInstr_moves registerOp_finRla _ _ _ _
    | exact rmwInstr_moves registerOp_finSre _ _ _ _
    | exact rmwInstr_moves registerOp_finRra _ _ _ _
    | exact rmwInstr_moves registerOp_finDcp _ _ _ _
    | exact rmwInstr_moves registerOp_finIsc _ _ _ _
    | exact immInstr_moves registerOp_loadA_operand _ _ _
    | exact immInstr_moves registerOp_loadX_operand _ _ _
    | exact immInstr_moves registerOp_loadY_operand _ _ _
    | exact immInstr_moves registerOp_opAdc _ _ _
    | exact immInstr_moves registerOp_opSbc _ _ _
    | exact immInstr_moves registerOp_opAnd _ _ _
    | exact immInstr_moves registerOp_opOra _ _ _
    | exact immInstr_moves registerOp_opEor _ _ _
    | exact immInstr_moves registerOp_opCmp _ _ _
    | exact immInstr_moves registerOp_opCpx _ _ _
    | exact immInstr_moves registerOp_opCpy _ _ _
    | exact immInstr_moves registerOp_opAnc _ _ _
    | exact immInstr_moves registerOp_opAlr _ _ _
    | exact immInstr_moves registerOp_opArr _ _ _
    | exact immInstr_moves registerOp_opAxs _ _ _
    | exact immInstr_moves registerOp_discard _ _ _
    | exact branchInstr_moves _ _ _
    | exact jumpInstr_moves _ _ _
    | exact resolveInstr_moves _ _ _
    | exact regInstr_moves registerOp_opTax _ _
    | exact regInstr_moves registerOp_opTay _ _
    | exact regInstr_moves registerOp_opTxa _ _
    | exact regInstr_moves registerOp_opTya _ _
    | exact regInstr_moves registerOp_opTsx _ _
    | exact regInstr_moves registerOp_opTxs _ _
    | exact regInstr_moves registerOp_opInx _ _
    | exact regInstr_moves registerOp_opIny _ _
    | exact regInstr_moves registerOp_opDex _ _
    | exact regInstr_moves registerOp_opDey _ _
    | exact regInstr_moves registerOp_opAslA _ _
    | exact regInstr_moves registerOp_opLsrA _ _
    | exact regInstr_moves registerOp_opRolA _ _
    | exact regInstr_moves registerOp_opRorA _ _
    | exact regInstr_moves registerOp_opClc _ _
    | exact regInstr_moves registerOp_opSec _ _
    | exact regInstr_moves registerOp_opCli _ _
    | exact regInstr_moves registerOp_opSei _ _
    | exact regInstr_moves registerOp_opClv _ _
    | exact regInstr_moves registerOp_opCld _ _
    | exact regInstr_moves registerOp_opSed _ _
    | exact regInstr_moves registerOp_noOperation _ _
    | exact stackInstr_moves opPha_moves _ _
    | exact stackInstr_moves opPhp_moves _ _
    | exact stackInstr_moves opPla_moves _ _
    | exact stackInstr_moves opPlp_moves _ _
    | exact stackInstr_moves (callSub_moves _) _ _
    | exact stackInstr_moves opRts_moves _ _
    | exact stackInstr_moves opRti_moves _ _
    | exact stackInstr_moves opBrk_moves _ _

end Sys2Proof.Machine
end

