-- ==== Sys2Proof/Laws/Render.lean ====
section
/-! SUPPORT. What each part of a dot can change of the picture unit (spec/61_picture_unit.md R340 to R366),
and what runs of dots keep. -/

namespace Sys2Proof.Machine

/-! ## Frames of the parts of a dot -/

/-- `q` is `p` but for the background pipeline: v, the shifters and the latches. -/
def PipelineFrame (p q : Ppu) : Prop :=
  q = { p with
    v := q.v, bgLo := q.bgLo, bgHi := q.bgHi, atLo := q.atLo, atHi := q.atHi
    ntLatch := q.ntLatch, atLatch := q.atLatch, patLoLatch := q.patLoLatch, patHiLatch := q.patHiLatch }

theorem PipelineFrame.refl (p : Ppu) : PipelineFrame p p := rfl

theorem PipelineFrame.trans {p q r : Ppu} (h : PipelineFrame p q) (h' : PipelineFrame q r) :
    PipelineFrame p r := by
  unfold PipelineFrame at *
  rw [h] at h'
  exact h'

theorem fetchPhase_frame (c : Cartridge) (phase : Nat) (p : Ppu) : PipelineFrame p (fetchPhase c phase p) := by
  unfold fetchPhase
  split <;> rfl

theorem scrollDot_frame (p : Ppu) : PipelineFrame p (scrollDot p) := by
  unfold scrollDot
  split
  · rfl
  split
  · rfl
  split <;> rfl

/-- `BackgroundDot()` touches the pipeline only (R351). -/
theorem backgroundDot_frame (c : Cartridge) (p : Ppu) : PipelineFrame p (backgroundDot c p) := by
  unfold backgroundDot
  refine .trans (q := if shiftDot p.dot then shiftBg p else p) (by split <;> rfl) ?_
  generalize (if shiftDot p.dot then shiftBg p else p) = p1
  refine .trans (q := if loadDot p.dot then loadShifters p1 else p1) (by split <;> rfl) ?_
  dsimp only
  generalize (if loadDot p.dot then loadShifters p1 else p1) = p2
  refine .trans (q := if fetchDot p.dot then fetchPhase c ((p.dot - 1) % 8) p2 else p2) ?_ (scrollDot_frame _)
  split
  · exact fetchPhase_frame _ _ _
  · rfl

/-- `EmitPixel()` touches the sprite-0 flag and the frame buffer only (R366). -/
theorem emitPixel_frame (p : Ppu) :
    emitPixel p = { p with spr0 := (emitPixel p).spr0, fb := (emitPixel p).fb } := rfl

/-- `SpriteEvaluate()` touches the overflow flag and the selected sprites only (R361). -/
theorem spriteEvaluate_frame (c : Cartridge) (p : Ppu) :
    spriteEvaluate c p =
      { p with ovf := (spriteEvaluate c p).ovf, lineSprites := (spriteEvaluate c p).lineSprites } := by
  unfold spriteEvaluate
  split
  · rfl
  split <;> rfl

/-- With rendering disabled the selected sprites stay, or there are none (R355, R361). -/
theorem spritesWhenDisabled_cases (l : List LineSprite) :
    spritesWhenDisabled l = l ∨ spritesWhenDisabled l = [] := by
  unfold spritesWhenDisabled
  cases Config.spritesStay <;> simp

/-- On the pre-render line evaluation empties the list of selected sprites and does nothing else (R361). -/
theorem spriteEvaluate_preRender (c : Cartridge) {p : Ppu} (h : p.scanline = 261) :
    spriteEvaluate c p = { p with lineSprites := [] } := if_pos h

/-- With rendering disabled evaluation leaves everything as it was, but that the selected sprites may be gone; on
the pre-render line they are (R355, R361). -/
theorem spriteEvaluate_disabled (c : Cartridge) {p : Ppu} (h : renderingEnabled p = false) :
    (p.scanline ≠ 261 ∧ spriteEvaluate c p = p) ∨ spriteEvaluate c p = { p with lineSprites := [] } := by
  by_cases hs : p.scanline = 261
  · exact .inr (spriteEvaluate_preRender c hs)
  unfold spriteEvaluate
  rw [if_neg hs, h]
  obtain e | e := spritesWhenDisabled_cases p.lineSprites
  · exact .inl ⟨hs, congrArg (fun l => { p with lineSprites := l }) e⟩
  · exact .inr (congrArg (fun l => { p with lineSprites := l }) e)

/-- At most eight sprites are selected after evaluation when at most eight were before it (R28, R361). -/
theorem spriteEvaluate_length (c : Cartridge) {p : Ppu} (h : p.lineSprites.length ≤ 8) :
    (spriteEvaluate c p).lineSprites.length ≤ 8 := by
  unfold spriteEvaluate
  split
  · simp
  split
  · exact (List.length_filter_le _ _).trans h
  · simp

/-- `Advance()` touches the position, the parity and the frame count only (R342). -/
theorem advance_frame (r : Bool) (p : Ppu) :
    advance r p = { p with
      scanline := (advance r p).scanline, dot := (advance r p).dot
      oddFrame := (advance r p).oddFrame, frame := (advance r p).frame } := by
  unfold advance
  split
  · rfl
  split
  · rfl
  split <;> rfl

/-- The status flags' dots touch the flags only (R345, R346). -/
theorem statusDot_frame (p : Ppu) :
    statusDot p = { p with
      vblank := (statusDot p).vblank, spr0 := (statusDot p).spr0, ovf := (statusDot p).ovf } := by
  unfold statusDot
  split
  · rfl
  split <;> rfl

/-! ## The frame of a dot -/

/-- `q` is `p` but for what a dot can change: never the registers, t, x, w, the read buffer, the nametables, the
palette or the sprite memory. -/
def TickFrame (p q : Ppu) : Prop :=
  q = { p with
    vblank := q.vblank, spr0 := q.spr0, ovf := q.ovf, v := q.v
    scanline := q.scanline, dot := q.dot, oddFrame := q.oddFrame, frame := q.frame
    bgLo := q.bgLo, bgHi := q.bgHi, atLo := q.atLo, atHi := q.atHi
    ntLatch := q.ntLatch, atLatch := q.atLatch, patLoLatch := q.patLoLatch, patHiLatch := q.patHiLatch
    lineSprites := q.lineSprites, fb := q.fb }

theorem TickFrame.refl (p : Ppu) : TickFrame p p := rfl

theorem TickFrame.trans {p q r : Ppu} (h : TickFrame p q) (h' : TickFrame q r) : TickFrame p r := by
  unfold TickFrame at *
  rw [h] at h'
  exact h'

theorem PipelineFrame.tick {p q : Ppu} (h : PipelineFrame p q) : TickFrame p q := by
  unfold PipelineFrame at h
  unfold TickFrame
  conv => lhs; rw [h]
  rw [h]

/-- What a dot of a render line does before the advance leaves the position alone (R340). -/
theorem renderLineDot_frame (c : Cartridge) (p : Ppu) :
    TickFrame p (renderLineDot c p) ∧ (renderLineDot c p).scanline = p.scanline
      ∧ (renderLineDot c p).dot = p.dot ∧ (renderLineDot c p).oddFrame = p.oddFrame
      ∧ (renderLineDot c p).frame = p.frame ∧ (renderLineDot c p).vblank = p.vblank := by
  have key : ∀ q : Ppu, PipelineFrame p q →
      let q2 := if p.scanline ≤ 239 ∧ 1 ≤ p.dot ∧ p.dot ≤ 256 then emitPixel q else q
      let q3 := if p.dot = 257 then spriteEvaluate c q2 else q2
      TickFrame p q3 ∧ q3.scanline = p.scanline ∧ q3.dot = p.dot ∧ q3.oddFrame = p.oddFrame
        ∧ q3.frame = p.frame ∧ q3.vblank = p.vblank := by
    intro q hq
    have e := hq.tick
    have h : TickFrame p (emitPixel q) := e.trans rfl
    have f : ∀ r : Ppu, TickFrame p r → TickFrame p (spriteEvaluate c r) := by
      intro r hr
      refine hr.trans ?_
      unfold TickFrame
      rw [spriteEvaluate_frame]
    have k : ∀ r : Ppu, (spriteEvaluate c r).scanline = r.scanline ∧ (spriteEvaluate c r).dot = r.dot
        ∧ (spriteEvaluate c r).oddFrame = r.oddFrame ∧ (spriteEvaluate c r).frame = r.frame
        ∧ (spriteEvaluate c r).vblank = r.vblank := by
      intro r
      rw [spriteEvaluate_frame]
      exact ⟨rfl, rfl, rfl, rfl, rfl⟩
    have hp : q.scanline = p.scanline ∧ q.dot = p.dot ∧ q.oddFrame = p.oddFrame ∧ q.frame = p.frame
        ∧ q.vblank = p.vblank := by
      unfold PipelineFrame at hq
      rw [hq]
      exact ⟨rfl, rfl, rfl, rfl, rfl⟩
    dsimp only
    split
    · split
      · exact ⟨f _ h, (k _).1.trans hp.1, (k _).2.1.trans hp.2.1, (k _).2.2.1.trans hp.2.2.1,
          (k _).2.2.2.1.trans hp.2.2.2.1, (k _).2.2.2.2.trans hp.2.2.2.2⟩
      · exact ⟨f _ e, (k _).1.trans hp.1, (k _).2.1.trans hp.2.1, (k _).2.2.1.trans hp.2.2.1,
          (k _).2.2.2.1.trans hp.2.2.2.1, (k _).2.2.2.2.trans hp.2.2.2.2⟩
    · split
      · exact ⟨h, hp⟩
      · exact ⟨e, hp⟩
  unfold renderLineDot
  refine key _ ?_
  split
  · exact backgroundDot_frame c p
  · rfl

/-- The state of a dot before its advance. -/
def beforeAdvance (c : Cartridge) (p : Ppu) : Ppu :=
  statusDot (if p.scanline ≤ 239 ∨ p.scanline = 261 then renderLineDot c p else p)

theorem ppuTick_eq (c : Cartridge) (p : Ppu) : ppuTick c p = advance (renderingEnabled p) (beforeAdvance c p) := rfl

theorem beforeAdvance_frame (c : Cartridge) (p : Ppu) :
    TickFrame p (beforeAdvance c p) ∧ (beforeAdvance c p).scanline = p.scanline
      ∧ (beforeAdvance c p).dot = p.dot ∧ (beforeAdvance c p).oddFrame = p.oddFrame
      ∧ (beforeAdvance c p).frame = p.frame := by
  have h : TickFrame p (if p.scanline ≤ 239 ∨ p.scanline = 261 then renderLineDot c p else p)
      ∧ (if p.scanline ≤ 239 ∨ p.scanline = 261 then renderLineDot c p else p).scanline = p.scanline
      ∧ (if p.scanline ≤ 239 ∨ p.scanline = 261 then renderLineDot c p else p).dot = p.dot
      ∧ (if p.scanline ≤ 239 ∨ p.scanline = 261 then renderLineDot c p else p).oddFrame = p.oddFrame
      ∧ (if p.scanline ≤ 239 ∨ p.scanline = 261 then renderLineDot c p else p).frame = p.frame := by
    have r := renderLineDot_frame c p
    split
    · exact ⟨r.1, r.2.1, r.2.2.1, r.2.2.2.1, r.2.2.2.2.1⟩
    · exact ⟨rfl, rfl, rfl, rfl, rfl⟩
  unfold beforeAdvance
  generalize (if p.scanline ≤ 239 ∨ p.scanline = 261 then renderLineDot c p else p) = q at h
  have hs := statusDot_frame q
  refine ⟨h.1.trans ?_, ?_, ?_, ?_, ?_⟩
  · unfold TickFrame statusDot
    split
    · rfl
    · split <;> rfl
  · rw [hs]; exact h.2.1
  · rw [hs]; exact h.2.2.1
  · rw [hs]; exact h.2.2.2.1
  · rw [hs]; exact h.2.2.2.2

/-- THE FRAME OF A DOT (R310, R340). -/
theorem ppuTick_frame (c : Cartridge) (p : Ppu) : TickFrame p (ppuTick c p) := by
  refine (beforeAdvance_frame c p).1.trans ?_
  rw [ppuTick_eq]
  unfold TickFrame advance
  split
  · rfl
  split
  · rfl
  split <;> rfl

theorem runDots_frame (c : Cartridge) (n : Nat) (p : Ppu) : TickFrame p (runDots c n p) := by
  induction n generalizing p with
  | zero => rfl
  | succ n ih => exact (ppuTick_frame c p).trans (ih _)

theorem runDots_add (c : Cartridge) (m n : Nat) (p : Ppu) :
    runDots c (m + n) p = runDots c n (runDots c m p) := by
  induction m generalizing p with
  | zero => simp [runDots]
  | succ m ih =>
    rw [Nat.succ_add]
    exact ih _

theorem frameEvents_add (c : Cartridge) (m n : Nat) (p : Ppu) :
    frameEvents c (m + n) p = frameEvents c m p ++ frameEvents c n (runDots c m p) := by
  induction m generalizing p with
  | zero => simp [runDots, frameEvents]
  | succ m ih =>
    rw [Nat.succ_add]
    simp only [frameEvents, runDots, ih, List.append_assoc]

/-- What the registers, which no dot changes, say stays: rendering enabled or not. -/
theorem TickFrame.renderingEnabled {p q : Ppu} (h : TickFrame p q) :
    renderingEnabled q = renderingEnabled p := by
  unfold TickFrame at h
  rw [h]
  rfl

theorem TickFrame.nmiEnable {p q : Ppu} (h : TickFrame p q) : q.ctrl = p.ctrl := by
  unfold TickFrame at h
  rw [h]

/-! ## The position -/

/-- Where a dot goes (R341 to R343). -/
theorem ppuTick_position (c : Cartridge) (p : Ppu) :
    ((ppuTick c p).scanline, (ppuTick c p).dot) =
      if p.scanline = 261 ∧ p.dot = 338 ∧ p.oddFrame = true ∧ renderingEnabled p = true then (261, 340)
      else if p.dot < 340 then (p.scanline, p.dot + 1)
      else if p.scanline < 261 then (p.scanline + 1, 0)
      else (0, 0) := by
  have h := beforeAdvance_frame c p
  rw [ppuTick_eq]
  unfold advance
  rw [h.2.1, h.2.2.1, h.2.2.2.1]
  split
  · rename_i e
    simp [e.1]
  split
  · simp
  split
  · rfl
  · rfl

/-- The parity and the frame count move at the end of the last line only (R342). -/
theorem ppuTick_parity (c : Cartridge) (p : Ppu) :
    ((ppuTick c p).oddFrame, (ppuTick c p).frame) =
      if p.dot < 340 ∨ p.scanline < 261 then (p.oddFrame, p.frame) else (!p.oddFrame, p.frame + 1) := by
  have h := beforeAdvance_frame c p
  rw [ppuTick_eq]
  unfold advance
  rw [h.2.1, h.2.2.1, h.2.2.2.1]
  split
  · rename_i e
    rw [if_pos (Or.inl (by omega))]
    simp [h.2.2.2.2]
  split
  · rename_i e
    rw [if_pos (Or.inl e)]
    simp [h.2.2.2.2]
  split
  · rename_i e
    rw [if_pos (Or.inr e)]
    simp [h.2.2.2.2]
  · rename_i e1 e2
    rw [if_neg (by omega)]
    simp [h.2.2.2.2]

end Sys2Proof.Machine
end

