-- ==== Sys2Proof/Laws/Invariant.lean ====
section
/-! SUPPORT. Each operation of the machine keeps the invariant of Safety.lean, and what no move changes. -/

namespace Sys2Proof.Machine

/-! ## Memories -/

theorem sized_writeCell {w size a : Nat} {m : Cells w} (hm : sized size m = true) (ha : a < size) (v : BitVec w) :
    sized size (writeCell m a v) = true := by
  unfold sized at *
  rw [Bool.and_eq_true] at *
  exact ⟨wf_writeCell hm.1 a v, within_writeCell hm.2 ha v⟩

theorem sized_wf {w size : Nat} {m : Cells w} (hm : sized size m = true) : Memory.wf m = true := by
  unfold sized at hm
  rw [Bool.and_eq_true] at hm
  exact hm.1

/-- `State.inv` as its parts. -/
theorem inv_iff (s : State) :
    State.inv s = true ↔ statusOk s.cpu.p = true ∧ sized 2048 s.ram = true
      ∧ ppuOk s.cart.mirroring s.ppu = true ∧ cartOk s.cart = true := by
  unfold State.inv
  simp only [Bool.and_eq_true, and_assoc]

/-- `ppuOk` as its parts. -/
theorem ppuOk_iff (m : Mirroring) (p : Ppu) :
    ppuOk m p = true ↔ sized (ntSize m) p.nt = true ∧ sized 32 p.pal = true ∧ sized 256 p.oam = true
      ∧ sized 61440 p.fb = true ∧ p.scanline ≤ 261 ∧ p.dot ≤ 340 ∧ p.lineSprites.length ≤ 8 := by
  unfold ppuOk positionOk
  simp only [Bool.and_eq_true, and_assoc, decide_eq_true_eq]

/-- `cartOk` as its parts. -/
theorem cartOk_iff (c : Cartridge) :
    cartOk c = true ↔ sized (prgSize c.prgBanks) c.prg = true ∧ sized 8192 c.chr = true := by
  unfold cartOk
  rw [Bool.and_eq_true]

/-! ## The picture unit's registers -/

theorem ppuOk_busRead (m : Mirroring) (a : Addr) (s : State) :
    ppuOk m (busRead a s).2.ppu = ppuOk m s.ppu := by
  rw [busRead_ppu]
  rfl

theorem ppuWrite_ok (a : VAddr) (d : Byte) {s : State} (hp : ppuOk s.cart.mirroring s.ppu = true)
    (hc : cartOk s.cart = true) :
    ppuOk s.cart.mirroring (ppuWrite a d s).ppu = true ∧ cartOk (ppuWrite a d s).cart = true := by
  rw [ppuOk_iff] at hp
  have hc' := (cartOk_iff _).1 hc
  unfold ppuWrite
  by_cases h1 : a.toNat ≤ 0x1FFF
  · rw [if_pos h1]
    refine ⟨(ppuOk_iff _ _).2 hp, ?_⟩
    unfold chrWrite
    dsimp only
    by_cases hr : s.cart.chrIsRam = true
    · rw [if_pos hr]
      exact (cartOk_iff _).2 ⟨hc'.1, sized_writeCell hc'.2 (by omega) d⟩
    · rw [if_neg hr]
      exact hc
  rw [if_neg h1]
  by_cases h2 : a.toNat ≤ 0x3EFF
  · rw [if_pos h2]
    exact ⟨(ppuOk_iff _ _).2 ⟨sized_writeCell hp.1 (ntIndex_lt _ _) d, hp.2⟩, hc⟩
  · rw [if_neg h2]
    exact ⟨(ppuOk_iff _ _).2 ⟨hp.1, sized_writeCell hp.2.1 (palIndex_lt a) d, hp.2.2⟩, hc⟩

theorem writeOamData_ok (d : Byte) {m : Mirroring} {p : Ppu} (hp : ppuOk m p = true) :
    ppuOk m (writeOamData d p) = true := by
  rw [ppuOk_iff] at *
  exact ⟨hp.1, hp.2.1, sized_writeCell hp.2.2.1 p.oamAddr.isLt d, hp.2.2.2⟩

theorem ppuRegWrite_ok (n : BitVec 3) (d : Byte) {s : State} (hp : ppuOk s.cart.mirroring s.ppu = true)
    (hc : cartOk s.cart = true) :
    ppuOk s.cart.mirroring (ppuRegWrite n d s).ppu = true ∧ cartOk (ppuRegWrite n d s).cart = true := by
  have hs : ∀ p : Ppu, ppuOk s.cart.mirroring p = true → ppuOk s.cart.mirroring (writeScroll d p) = true := by
    intro p h
    unfold writeScroll
    split <;> exact h
  have ha : ∀ p : Ppu, ppuOk s.cart.mirroring p = true → ppuOk s.cart.mirroring (writeAddress d p) = true := by
    intro p h
    unfold writeAddress
    split <;> exact h
  unfold ppuRegWrite
  split
  · exact ⟨hp, hc⟩
  split
  · exact ⟨hp, hc⟩
  split
  · exact ⟨hp, hc⟩
  split
  · exact ⟨hp, hc⟩
  split
  · exact ⟨writeOamData_ok d hp, hc⟩
  split
  · exact ⟨hs _ hp, hc⟩
  split
  · exact ⟨ha _ hp, hc⟩
  · exact ppuWrite_ok _ d hp hc

/-! ## The bus -/

theorem dmaBytes_ok (page : Byte) (n : Nat) (m : Mirroring) {s : State} (hp : ppuOk m s.ppu = true) :
    ppuOk m (dmaBytes page n s).ppu = true := by
  induction n with
  | zero => exact hp
  | succ n ih => exact writeOamData_ok _ ((ppuOk_busRead m _ _).trans ih)

theorem inv_busRead (a : Addr) {s : State} (h : State.inv s = true) : State.inv (busRead a s).2 = true := by
  rw [inv_iff] at *
  rw [busRead_cpu, busRead_ram, busRead_cart, ppuOk_busRead]
  exact h

theorem inv_busWrite (a : Addr) (v : Byte) {s : State} (h : State.inv s = true) :
    State.inv (busWrite a v s) = true := by
  rw [inv_iff] at *
  rw [busWrite_cpu, busWrite_cart_mirroring]
  refine ⟨h.1, ?_⟩
  unfold busWrite
  by_cases h1 : a.toNat ≤ 0x1FFF
  · rw [if_pos h1]
    exact ⟨sized_writeCell h.2.1 (by unfold ramIndex; omega) v, h.2.2⟩
  rw [if_neg h1]
  by_cases h2 : a.toNat ≤ 0x3FFF
  · rw [if_pos h2, ppuRegWrite_ram]
    exact ⟨h.2.1, ppuRegWrite_ok _ v h.2.2.1 h.2.2.2⟩
  rw [if_neg h2]
  by_cases h3 : a.toNat = 0x4014
  · rw [if_pos h3]
    unfold oamDma
    rw [addCycles_ram, addCycles_ppu, addCycles_cart, dmaBytes_ram, dmaBytes_cart]
    exact ⟨h.2.1, dmaBytes_ok v 256 _ h.2.2.1, h.2.2.2⟩
  rw [if_neg h3]
  split <;> exact h.2

/-- No instruction and no interrupt entry breaks the invariant. -/
theorem Moves.inv {s t : State} (h : Moves s t) (hs : State.inv s = true) : State.inv t = true := by
  induction h with
  | start => exact hs
  | read a _ ih => exact inv_busRead a ih
  | write a v _ ih => exact inv_busWrite a v ih
  | regs c n _ hr ih =>
    rw [inv_iff] at *
    exact ⟨hr.2 ih.1, ih.2⟩

/-! ## What no move changes -/

theorem busWrite_chr_of_rom (a : Addr) (v : Byte) {s : State} (h : s.cart.chrIsRam = false) :
    (busWrite a v s).cart.chr = s.cart.chr := by
  have hw : ∀ b : VAddr, (ppuWrite b v s).cart.chr = s.cart.chr := by
    intro b
    unfold ppuWrite
    split
    · exact congrArg Cartridge.chr (chrWrite_chr_of_rom h b v)
    · split <;> rfl
  have hr : ∀ n : BitVec 3, (ppuRegWrite n v s).cart.chr = s.cart.chr := by
    intro n
    unfold ppuRegWrite
    split
    · rfl
    split
    · rfl
    split
    · rfl
    split
    · rfl
    split
    · rfl
    split
    · rfl
    split
    · rfl
    · exact hw _
  unfold busWrite
  by_cases h1 : a.toNat ≤ 0x1FFF
  · rw [if_pos h1]
  rw [if_neg h1]
  by_cases h2 : a.toNat ≤ 0x3FFF
  · rw [if_pos h2]
    exact hr _
  rw [if_neg h2]
  by_cases h3 : a.toNat = 0x4014
  · rw [if_pos h3]
    unfold oamDma
    rw [addCycles_cart, dmaBytes_cart]
  rw [if_neg h3]
  split <;> rfl

/-- Reads and writes of the bus and of the registers leave the totals, the environment's lines and script, the
parameters, the program memory, the wiring and a read-only pattern memory alone. -/
theorem Moves.fixed {s t : State} (h : Moves s t) :
    t.cyc = s.cyc ∧ t.cfg = s.cfg ∧ t.inputs = s.inputs ∧ t.irqLine = s.irqLine
      ∧ t.cpu.nmiPrev = s.cpu.nmiPrev ∧ t.cart.prg = s.cart.prg ∧ t.cart.prgBanks = s.cart.prgBanks
      ∧ t.cart.chrIsRam = s.cart.chrIsRam ∧ t.cart.mirroring = s.cart.mirroring
      ∧ t.cart.mapperId = s.cart.mapperId ∧ (s.cart.chrIsRam = false → t.cart.chr = s.cart.chr) := by
  induction h with
  | start => exact ⟨rfl, rfl, rfl, rfl, rfl, rfl, rfl, rfl, rfl, rfl, fun _ => rfl⟩
  | read a _ ih => simpa using ih
  | write a v _ ih =>
    obtain ⟨h1, h2, h3, h4, h5, h6, h7, h8, h9, h10, h11⟩ := ih
    refine ⟨?_, ?_, ?_, ?_, ?_, ?_, ?_, ?_, ?_, ?_, fun e => ?_⟩
    · simpa using h1
    · simpa using h2
    · simpa using h3
    · simpa using h4
    · simpa using h5
    · simpa using h6
    · simpa using h7
    · simpa using h8
    · simpa using h9
    · simp
    · rw [busWrite_chr_of_rom a v (h8.trans e)]
      exact h11 e
  | regs c n _ hr ih =>
    obtain ⟨h1, h2, h3, h4, h5, h6⟩ := ih
    exact ⟨h1, h2, h3, h4, hr.1.trans h5, h6⟩

/-- The events a move adds are forwarded writes. -/
theorem busWrite_events (a : Addr) (v : Byte) (s : State) :
    (busWrite a v s).events = s.events ∨ (busWrite a v s).events = s.events ++ [.extWrite a v] := by
  unfold busWrite
  by_cases h1 : a.toNat ≤ 0x1FFF
  · rw [if_pos h1]
    exact .inl rfl
  rw [if_neg h1]
  by_cases h2 : a.toNat ≤ 0x3FFF
  · rw [if_pos h2]
    exact .inl (ppuRegWrite_events _ _ _)
  rw [if_neg h2]
  by_cases h3 : a.toNat = 0x4014
  · rw [if_pos h3]
    unfold oamDma
    rw [addCycles_events, dmaBytes_events]
    exact .inl rfl
  rw [if_neg h3]
  split
  · exact .inr rfl
  · exact .inl rfl

/-- No move is an audio tick: the clock alone emits them (R391). -/
theorem Moves.ticks {s t : State} (h : Moves s t) : t.events.count .audioTick = s.events.count .audioTick := by
  induction h with
  | start => rfl
  | read a _ ih => rw [busRead_events]; exact ih
  | write a v _ ih =>
    rename_i u _
    rcases busWrite_events a v u with e | e
    · rw [e]; exact ih
    · rw [e, List.count_append, ih]
      simp
  | regs c n _ hr ih => exact ih

/-! ## Dots -/

theorem TickFrame.memories {p q : Ppu} (h : TickFrame p q) : q.nt = p.nt ∧ q.pal = p.pal ∧ q.oam = p.oam := by
  unfold TickFrame at h
  rw [h]
  exact ⟨rfl, rfl, rfl⟩

/-- The frame buffer and the selected sprites before the advance keep their sizes. -/
theorem beforeAdvance_ok (c : Cartridge) {p : Ppu} (hf : sized 61440 p.fb = true) (hl : p.lineSprites.length ≤ 8) :
    sized 61440 (beforeAdvance c p).fb = true ∧ (beforeAdvance c p).lineSprites.length ≤ 8 := by
  have hs : ∀ q : Ppu, (statusDot q).fb = q.fb ∧ (statusDot q).lineSprites = q.lineSprites := by
    intro q
    rw [statusDot_frame]
    exact ⟨rfl, rfl⟩
  unfold beforeAdvance
  rw [(hs _).1, (hs _).2]
  by_cases hr : p.scanline ≤ 239 ∨ p.scanline = 261
  · rw [if_pos hr]
    unfold renderLineDot
    have hp : ∀ q : Ppu, PipelineFrame p q →
        let q2 := if p.scanline ≤ 239 ∧ 1 ≤ p.dot ∧ p.dot ≤ 256 then emitPixel q else q
        let q3 := if p.dot = 257 then spriteEvaluate c q2 else q2
        sized 61440 q3.fb = true ∧ q3.lineSprites.length ≤ 8 := by
      intro q hq
      have e : q.fb = p.fb ∧ q.lineSprites = p.lineSprites ∧ q.scanline = p.scanline ∧ q.dot = p.dot := by
        unfold PipelineFrame at hq
        rw [hq]
        exact ⟨rfl, rfl, rfl, rfl⟩
      have h2 : ∀ r : Ppu, sized 61440 r.fb = true → r.lineSprites.length ≤ 8 →
          sized 61440 (if p.dot = 257 then spriteEvaluate c r else r).fb = true
            ∧ (if p.dot = 257 then spriteEvaluate c r else r).lineSprites.length ≤ 8 := by
        intro r h1 h2
        split
        · refine ⟨?_, spriteEvaluate_length c h2⟩
          rw [spriteEvaluate_frame]
          exact h1
        · exact ⟨h1, h2⟩
      dsimp only
      refine h2 _ ?_ ?_
      · split
        · rename_i hc
          unfold emitPixel
          exact sized_writeCell (e.1 ▸ hf) (by unfold fbIndex; omega) _
        · exact e.1 ▸ hf
      · split
        · show q.lineSprites.length ≤ 8
          exact e.2.1 ▸ hl
        · exact e.2.1 ▸ hl
    refine hp _ ?_
    split
    · exact backgroundDot_frame c p
    · rfl
  · rw [if_neg hr]
    exact ⟨hf, hl⟩

/-- A dot keeps the picture unit good. -/
theorem ppuTick_ok (c : Cartridge) (m : Mirroring) {p : Ppu} (h : ppuOk m p = true) :
    ppuOk m (ppuTick c p) = true := by
  rw [ppuOk_iff] at *
  obtain ⟨h1, h2, h3, h4, h5, h6, h7⟩ := h
  have hm := (ppuTick_frame c p).memories
  have hb := beforeAdvance_ok c h4 h7
  have ha : ∀ r q, (advance r q).fb = q.fb ∧ (advance r q).lineSprites = q.lineSprites := by
    intro r q
    rw [advance_frame]
    exact ⟨rfl, rfl⟩
  have hpos := ppuTick_position c p
  have hs : (ppuTick c p).scanline ≤ 261 ∧ (ppuTick c p).dot ≤ 340 := by
    have e1 := congrArg Prod.fst hpos
    have e2 := congrArg Prod.snd hpos
    dsimp only at e1 e2
    rw [e1, e2]
    split
    · exact ⟨le_refl _, le_refl _⟩
    split
    · exact ⟨h5, by dsimp only; omega⟩
    split
    · exact ⟨by dsimp only; omega, by dsimp only; omega⟩
    · exact ⟨by dsimp only; omega, by dsimp only; omega⟩
  rw [hm.1, hm.2.1, hm.2.2]
  refine ⟨h1, h2, h3, ?_, hs.1, hs.2, ?_⟩
  · rw [ppuTick_eq, (ha _ _).1]
    exact hb.1
  · rw [ppuTick_eq, (ha _ _).2]
    exact hb.2

theorem runDots_ok (c : Cartridge) (m : Mirroring) (n : Nat) {p : Ppu} (h : ppuOk m p = true) :
    ppuOk m (runDots c n p) = true := by
  induction n generalizing p with
  | zero => exact h
  | succ n ih => exact ih (ppuTick_ok c m h)

end Sys2Proof.Machine
end

