-- ==== Sys2Proof/Laws/Driver.lean ====
section
/-! SUPPORT. What a driver step can do, said once (spec/70_reset_and_hazards.md R380, R390,
spec/60_exceptions.md R285): a reset, an interrupt service, or one fetched instruction, and then the clock. -/

namespace Sys2Proof.Machine

/-! ## Fetch -/

theorem fetchByte_moves {s t : State} (h : Moves s t) : Moves s (fetchByte t).2 := (h.read _).setPc _

theorem fetchInstr_moves {s t : State} (h : Moves s t) : Moves s (fetchInstr t).2 := by
  unfold fetchInstr
  dsimp only
  split
  · exact fetchByte_moves h
  · exact fetchByte_moves (fetchByte_moves h)
  · exact fetchByte_moves (fetchByte_moves (fetchByte_moves h))

/-! ## The boundary -/

/-- The state the boundary's interrupt service or fetch starts from: inputs consumed, edge detector updated. -/
def polled (s : State) : State := (pollInterrupts (sampleInputs (beginStep s)).2).2

theorem sampleInputs_frame (s : State) :
    (sampleInputs s).2 = { s with inputs := (sampleInputs s).2.inputs, irqLine := (sampleInputs s).2.irqLine } := by
  unfold sampleInputs
  split <;> rfl

/-- What the boundary itself changes. -/
theorem polled_frame (s : State) :
    polled s = { s with
      cycles := 0, events := [], inputs := (polled s).inputs, irqLine := (polled s).irqLine
      cpu := { s.cpu with nmiPrev := nmiLine s.ppu } } := by
  unfold polled pollInterrupts
  dsimp only
  rw [sampleInputs_frame]
  rfl

/-- EVERYTHING A STEP CAN DO. A reset; or moves from the boundary, by an interrupt entry or by an instruction,
and the clock after them. -/
theorem step_cases (s : State) :
    (∃ b rest, s.inputs = b :: rest ∧ b.resetRequest = true
        ∧ step s = .next (performReset { beginStep s with inputs := rest, irqLine := b.irqLine }))
    ∨ ((∀ b, s.inputs.head? = some b → b.resetRequest = false)
        ∧ ∃ u, Moves (polled s) u ∧ step s = .next (clock u)
          ∧ ((∃ k, u = enterInterrupt k (polled s)) ∨ ∃ i v, Moves (polled s) v ∧ exec i v = .next u)) := by
  by_cases hr : (sampleInputs (beginStep s)).1.resetRequest = true
  · left
    have hb : boundary s = .finished (performReset (sampleInputs (beginStep s)).2) := by
      unfold boundary
      dsimp only
      rw [if_pos hr]
    have hs : step s = .next (performReset (sampleInputs (beginStep s)).2) := by
      unfold step
      rw [hb]
    rw [hs]
    unfold sampleInputs beginStep at *
    dsimp only at *
    split at hr
    · cases hr
    · rename_i b rest e
      exact ⟨b, rest, e, hr, rfl⟩
  · right
    have hn : ∀ b, s.inputs.head? = some b → b.resetRequest = false := by
      intro b e
      cases hi : s.inputs with
      | nil => rw [hi] at e; cases e
      | cons c rest =>
        rw [hi] at e
        have hc : c = b := by simpa using e
        have hs : (sampleInputs (beginStep s)).1 = c := by
          unfold sampleInputs beginStep
          dsimp only
          rw [hi]
        rw [hs, hc] at hr
        simpa using hr
    refine ⟨hn, ?_⟩
    cases hk : (pollInterrupts (sampleInputs (beginStep s)).2).1 with
    | some k =>
      have hb : boundary s = .finished (clock (enterInterrupt k (polled s))) := by
        unfold boundary
        dsimp only
        rw [if_neg hr, hk]
        rfl
      refine ⟨enterInterrupt k (polled s), Moves.start.enterInterrupt k, ?_, .inl ⟨k, rfl⟩⟩
      unfold step
      rw [hb]
    | none =>
      have hb : boundary s = .execute (fetchInstr (polled s)).1 (fetchInstr (polled s)).2 := by
        unfold boundary
        dsimp only
        rw [if_neg hr, hk]
        rfl
      have hf : Moves (polled s) (fetchInstr (polled s)).2 := fetchInstr_moves .start
      obtain ⟨u, hu, hm⟩ := exec_moves (fetchInstr (polled s)).1 (fetchInstr (polled s)).2
      refine ⟨u, hf.trans hm, ?_, .inr ⟨_, _, hf, hu⟩⟩
      unfold step
      rw [hb]
      dsimp only
      rw [hu]

/-! ## Reset -/

theorem readPair_reset (s : State) :
    readPair 0xFFFC 0xFFFD s
      = (readCell s.cart.prg (prgIndex s.cart 0xFFFD) ++ readCell s.cart.prg (prgIndex s.cart 0xFFFC), s) :=
  readPair_prg (by decide) (by decide) s

/-- `Reset()` in closed form (R380). -/
theorem performReset_eq (s : State) :
    performReset s = { s with
      cpu :=
        { a := 0, x := 0, y := 0, sp := 0xFD, p := 0x24, nmiPrev := false
          pc := readCell s.cart.prg (prgIndex s.cart 0xFFFD) ++ readCell s.cart.prg (prgIndex s.cart 0xFFFC) }
      ppu := runDots s.cart (3 * s.cfg.resetCycles) resetPpu
      cyc := s.cfg.resetCycles
      events := s.events ++ frameEvents s.cart (3 * s.cfg.resetCycles) resetPpu
        ++ List.replicate s.cfg.resetCycles .audioTick } := by
  unfold performReset
  simp only [readPair_reset]
  rfl

/-- A dot of the first line of the picture unit as the reset leaves it, for the first 256 dots: nothing but the
position moves (R32). -/
theorem reset_dot (c : Cartridge) {d : Nat} (h : d < 256) :
    ppuTick c { resetPpu with dot := d } = { resetPpu with dot := d + 1 } := by
  have hr : renderLineDot c { resetPpu with dot := d } = { resetPpu with dot := d } := by
    have he : emitPixel { resetPpu with dot := d } = { resetPpu with dot := d } := by
      simp [emitPixel, bgPixel, spritePixel, maskShowBg, maskShowSpr, resetPpu, pixelEntry, noSprite,
        spriteZeroHit, colour, writeCell, unlisted]
    unfold renderLineDot
    rw [if_neg (show ¬ renderingEnabled { resetPpu with dot := d } = true from
      show ¬ (((0 : Byte).getLsbD 3 || (0 : Byte).getLsbD 4) = true) by decide)]
    dsimp only
    rw [if_neg (show ¬ d = 257 by omega)]
    split
    · exact he
    · rfl
  unfold ppuTick
  rw [if_pos (Or.inl (show resetPpu.scanline ≤ 239 by decide)), hr]
  unfold statusDot advance
  simp [vblankDot, clearDot, resetPpu, show d < 340 by omega]

theorem reset_dots (c : Cartridge) {n : Nat} : ∀ {d : Nat}, d + n ≤ 256 →
    runDots c n { resetPpu with dot := d } = { resetPpu with dot := d + n }
      ∧ frameEvents c n { resetPpu with dot := d } = [] := by
  induction n with
  | zero => exact fun _ => ⟨rfl, rfl⟩
  | succ n ih =>
    intro d h
    have hi := ih (d := d + 1) (by omega)
    unfold runDots frameEvents
    rw [reset_dot c (by omega), hi.1, hi.2]
    refine ⟨by rw [Nat.add_right_comm]; rfl, ?_⟩
    simp [vblankDot, resetPpu]

/-- What power-on does to a cartridge: a writable pattern memory reads 0x00 everywhere, and no other field changes;
a read-only one is kept (R381). -/
theorem powerOnCartridge_cases (c : Cartridge) :
    (c.chrIsRam = true ∧ powerOnCartridge c = { c with chr := [] })
      ∨ (c.chrIsRam = false ∧ powerOnCartridge c = c) := by
  unfold powerOnCartridge
  cases h : c.chrIsRam
  · exact .inr ⟨rfl, rfl⟩
  · exact .inl ⟨rfl, rfl⟩

/-- Power-on leaves RAM_INIT in RAM and the powered-on cartridge in its slot (R381). -/
theorem powerOn_stores (cfg : Config) (cart : Cartridge) (inputs : List BoundaryInput) (extIn : List Byte) :
    (powerOn cfg cart inputs extIn).ram = cfg.ramInit
      ∧ (powerOn cfg cart inputs extIn).cart = powerOnCartridge cart := by
  unfold powerOn
  rw [performReset_eq]
  exact ⟨rfl, rfl⟩

/-- The state after power-on with the default parameters and a cartridge that lists nothing is `State.reset`
(R32, R381). -/
theorem reset_eq_powerOn : State.reset = powerOn Config.standard blankCartridge [] [] := by
  set_option maxRecDepth 20000 in decide

/-! ## The clock -/

/-- The picture unit after the clock (R390). -/
theorem clock_ppu (s : State) : (clock s).ppu = runDots s.cart (3 * s.cycles) s.ppu := rfl

theorem clock_inv {s : State} (h : State.inv s = true) : State.inv (clock s) = true := by
  rw [inv_iff] at *
  exact ⟨h.1, h.2.1, runDots_ok _ _ _ h.2.2.1, h.2.2.2⟩

/-- No dot emits an audio tick. -/
theorem frameEvents_ticks (c : Cartridge) (n : Nat) (p : Ppu) : (frameEvents c n p).count .audioTick = 0 := by
  induction n generalizing p with
  | zero => rfl
  | succ n ih =>
    unfold frameEvents
    rw [List.count_append, ih]
    split <;> simp

end Sys2Proof.Machine
end

