-- ==== Sys2Proof/Laws/PerInstr.lean ====
section
/-! SUPPORT. Statements made of every instruction as syntax, one lemma for each constructor of `Instr`. -/

namespace Sys2Proof.Laws

/-- ENCODED LENGTH (spec/30_encoding.md R80, R81): an instruction is encoded in as many bytes as the format of
its opcode byte has, the opcode byte first. -/
def EncodedLength.Statement (i : Instr) : Prop := (encode i).length = opLength ((encode i).headD 0)

namespace EncodedLength

/-- The statement from the bytes written out. -/
theorem of_bytes {i : Instr} (op : Byte) (rest : List Byte) (h : encode i = op :: rest)
    (hl : rest.length + 1 = opLength op) : Statement i := by
  unfold Statement
  rw [h]
  exact hl

theorem oraIzx (zp : Byte) : Statement (.oraIzx zp) := of_bytes 0x01 [zp] rfl rfl

theorem sloIzx (zp : Byte) : Statement (.sloIzx zp) := of_bytes 0x03 [zp] rfl rfl

theorem nopZp04 (zp : Byte) : Statement (.nopZp04 zp) := of_bytes 0x04 [zp] rfl rfl

theorem oraZp (zp : Byte) : Statement (.oraZp zp) := of_bytes 0x05 [zp] rfl rfl

theorem aslZp (zp : Byte) : Statement (.aslZp zp) := of_bytes 0x06 [zp] rfl rfl

theorem sloZp (zp : Byte) : Statement (.sloZp zp) := of_bytes 0x07 [zp] rfl rfl

theorem oraImm (m : Byte) : Statement (.oraImm m) := of_bytes 0x09 [m] rfl rfl

theorem ancImm0B (m : Byte) : Statement (.ancImm0B m) := of_bytes 0x0B [m] rfl rfl

theorem nopAbs0C (a : Addr) : Statement (.nopAbs0C a) := of_bytes 0x0C [operandLo a, operandHi a] rfl rfl

theorem oraAbs (a : Addr) : Statement (.oraAbs a) := of_bytes 0x0D [operandLo a, operandHi a] rfl rfl

theorem aslAbs (a : Addr) : Statement (.aslAbs a) := of_bytes 0x0E [operandLo a, operandHi a] rfl rfl

theorem sloAbs (a : Addr) : Statement (.sloAbs a) := of_bytes 0x0F [operandLo a, operandHi a] rfl rfl

theorem bpl (off : Byte) : Statement (.bpl off) := of_bytes 0x10 [off] rfl rfl

theorem oraIzy (zp : Byte) : Statement (.oraIzy zp) := of_bytes 0x11 [zp] rfl rfl

theorem sloIzy (zp : Byte) : Statement (.sloIzy zp) := of_bytes 0x13 [zp] rfl rfl

theorem nopZpx14 (zp : Byte) : Statement (.nopZpx14 zp) := of_bytes 0x14 [zp] rfl rfl

theorem oraZpx (zp : Byte) : Statement (.oraZpx zp) := of_bytes 0x15 [zp] rfl rfl

theorem aslZpx (zp : Byte) : Statement (.aslZpx zp) := of_bytes 0x16 [zp] rfl rfl

theorem sloZpx (zp : Byte) : Statement (.sloZpx zp) := of_bytes 0x17 [zp] rfl rfl

theorem oraAby (a : Addr) : Statement (.oraAby a) := of_bytes 0x19 [operandLo a, operandHi a] rfl rfl

theorem sloAby (a : Addr) : Statement (.sloAby a) := of_bytes 0x1B [operandLo a, operandHi a] rfl rfl

theorem nopAbx1C (a : Addr) : Statement (.nopAbx1C a) := of_bytes 0x1C [operandLo a, operandHi a] rfl rfl

theorem oraAbx (a : Addr) : Statement (.oraAbx a) := of_bytes 0x1D [operandLo a, operandHi a] rfl rfl

theorem aslAbx (a : Addr) : Statement (.aslAbx a) := of_bytes 0x1E [operandLo a, operandHi a] rfl rfl

theorem sloAbx (a : Addr) : Statement (.sloAbx a) := of_bytes 0x1F [operandLo a, operandHi a] rfl rfl

theorem jsr (a : Addr) : Statement (.jsr a) := of_bytes 0x20 [operandLo a, operandHi a] rfl rfl

theorem andIzx (zp : Byte) : Statement (.andIzx zp) := of_bytes 0x21 [zp] rfl rfl

theorem rlaIzx (zp : Byte) : Statement (.rlaIzx zp) := of_bytes 0x23 [zp] rfl rfl

theorem bitZp (zp : Byte) : Statement (.bitZp zp) := of_bytes 0x24 [zp] rfl rfl

theorem andZp (zp : Byte) : Statement (.andZp zp) := of_bytes 0x25 [zp] rfl rfl

theorem rolZp (zp : Byte) : Statement (.rolZp zp) := of_bytes 0x26 [zp] rfl rfl

theorem rlaZp (zp : Byte) : Statement (.rlaZp zp) := of_bytes 0x27 [zp] rfl rfl

theorem andImm (m : Byte) : Statement (.andImm m) := of_bytes 0x29 [m] rfl rfl

theorem ancImm2B (m : Byte) : Statement (.ancImm2B m) := of_bytes 0x2B [m] rfl rfl

theorem bitAbs (a : Addr) : Statement (.bitAbs a) := of_bytes 0x2C [operandLo a, operandHi a] rfl rfl

theorem andAbs (a : Addr) : Statement (.andAbs a) := of_bytes 0x2D [operandLo a, operandHi a] rfl rfl

theorem rolAbs (a : Addr) : Statement (.rolAbs a) := of_bytes 0x2E [operandLo a, operandHi a] rfl rfl

theorem rlaAbs (a : Addr) : Statement (.rlaAbs a) := of_bytes 0x2F [operandLo a, operandHi a] rfl rfl

theorem bmi (off : Byte) : Statement (.bmi off) := of_bytes 0x30 [off] rfl rfl

theorem andIzy (zp : Byte) : Statement (.andIzy zp) := of_bytes 0x31 [zp] rfl rfl

theorem rlaIzy (zp : Byte) : Statement (.rlaIzy zp) := of_bytes 0x33 [zp] rfl rfl

theorem nopZpx34 (zp : Byte) : Statement (.nopZpx34 zp) := of_bytes 0x34 [zp] rfl rfl

theorem andZpx (zp : Byte) : Statement (.andZpx zp) := of_bytes 0x35 [zp] rfl rfl

theorem rolZpx (zp : Byte) : Statement (.rolZpx zp) := of_bytes 0x36 [zp] rfl rfl

theorem rlaZpx (zp : Byte) : Statement (.rlaZpx zp) := of_bytes 0x37 [zp] rfl rfl

theorem andAby (a : Addr) : Statement (.andAby a) := of_bytes 0x39 [operandLo a, operandHi a] rfl rfl

theorem rlaAby (a : Addr) : Statement (.rlaAby a) := of_bytes 0x3B [operandLo a, operandHi a] rfl rfl

theorem nopAbx3C (a : Addr) : Statement (.nopAbx3C a) := of_bytes 0x3C [operandLo a, operandHi a] rfl rfl

theorem andAbx (a : Addr) : Statement (.andAbx a) := of_bytes 0x3D [operandLo a, operandHi a] rfl rfl

theorem rolAbx (a : Addr) : Statement (.rolAbx a) := of_bytes 0x3E [operandLo a, operandHi a] rfl rfl

theorem rlaAbx (a : Addr) : Statement (.rlaAbx a) := of_bytes 0x3F [operandLo a, operandHi a] rfl rfl

theorem eorIzx (zp : Byte) : Statement (.eorIzx zp) := of_bytes 0x41 [zp] rfl rfl

theorem sreIzx (zp : Byte) : Statement (.sreIzx zp) := of_bytes 0x43 [zp] rfl rfl

theorem nopZp44 (zp : Byte) : Statement (.nopZp44 zp) := of_bytes 0x44 [zp] rfl rfl

theorem eorZp (zp : Byte) : Statement (.eorZp zp) := of_bytes 0x45 [zp] rfl rfl

theorem lsrZp (zp : Byte) : Statement (.lsrZp zp) := of_bytes 0x46 [zp] rfl rfl

theorem sreZp (zp : Byte) : Statement (.sreZp zp) := of_bytes 0x47 [zp] rfl rfl

theorem eorImm (m : Byte) : Statement (.eorImm m) := of_bytes 0x49 [m] rfl rfl

theorem alrImm (m : Byte) : Statement (.alrImm m) := of_bytes 0x4B [m] rfl rfl

theorem jmpAbs (a : Addr) : Statement (.jmpAbs a) := of_bytes 0x4C [operandLo a, operandHi a] rfl rfl

theorem eorAbs (a : Addr) : Statement (.eorAbs a) := of_bytes 0x4D [operandLo a, operandHi a] rfl rfl

theorem lsrAbs (a : Addr) : Statement (.lsrAbs a) := of_bytes 0x4E [operandLo a, operandHi a] rfl rfl

theorem sreAbs (a : Addr) : Statement (.sreAbs a) := of_bytes 0x4F [operandLo a, operandHi a] rfl rfl

theorem bvc (off : Byte) : Statement (.bvc off) := of_bytes 0x50 [off] rfl rfl

theorem eorIzy (zp : Byte) : Statement (.eorIzy zp) := of_bytes 0x51 [zp] rfl rfl

theorem sreIzy (zp : Byte) : Statement (.sreIzy zp) := of_bytes 0x53 [zp] rfl rfl

theorem nopZpx54 (zp : Byte) : Statement (.nopZpx54 zp) := of_bytes 0x54 [zp] rfl rfl

theorem eorZpx (zp : Byte) : Statement (.eorZpx zp) := of_bytes 0x55 [zp] rfl rfl

theorem lsrZpx (zp : Byte) : Statement (.lsrZpx zp) := of_bytes 0x56 [zp] rfl rfl

theorem sreZpx (zp : Byte) : Statement (.sreZpx zp) := of_bytes 0x57 [zp] rfl rfl

theorem eorAby (a : Addr) : Statement (.eorAby a) := of_bytes 0x59 [operandLo a, operandHi a] rfl rfl

theorem sreAby (a : Addr) : Statement (.sreAby a) := of_bytes 0x5B [operandLo a, operandHi a] rfl rfl

theorem nopAbx5C (a : Addr) : Statement (.nopAbx5C a) := of_bytes 0x5C [operandLo a, operandHi a] rfl rfl

theorem eorAbx (a : Addr) : Statement (.eorAbx a) := of_bytes 0x5D [operandLo a, operandHi a] rfl rfl

theorem lsrAbx (a : Addr) : Statement (.lsrAbx a) := of_bytes 0x5E [operandLo a, operandHi a] rfl rfl

theorem sreAbx (a : Addr) : Statement (.sreAbx a) := of_bytes 0x5F [operandLo a, operandHi a] rfl rfl

theorem adcIzx (zp : Byte) : Statement (.adcIzx zp) := of_bytes 0x61 [zp] rfl rfl

theorem rraIzx (zp : Byte) : Statement (.rraIzx zp) := of_bytes 0x63 [zp] rfl rfl

theorem nopZp64 (zp : Byte) : Statement (.nopZp64 zp) := of_bytes 0x64 [zp] rfl rfl

theorem adcZp (zp : Byte) : Statement (.adcZp zp) := of_bytes 0x65 [zp] rfl rfl

theorem rorZp (zp : Byte) : Statement (.rorZp zp) := of_bytes 0x66 [zp] rfl rfl

theorem rraZp (zp : Byte) : Statement (.rraZp zp) := of_bytes 0x67 [zp] rfl rfl

theorem adcImm (m : Byte) : Statement (.adcImm m) := of_bytes 0x69 [m] rfl rfl

theorem arrImm (m : Byte) : Statement (.arrImm m) := of_bytes 0x6B [m] rfl rfl

theorem jmpInd (ptr : Addr) : Statement (.jmpInd ptr) := of_bytes 0x6C [operandLo ptr, operandHi ptr] rfl rfl

theorem adcAbs (a : Addr) : Statement (.adcAbs a) := of_bytes 0x6D [operandLo a, operandHi a] rfl rfl

theorem rorAbs (a : Addr) : Statement (.rorAbs a) := of_bytes 0x6E [operandLo a, operandHi a] rfl rfl

theorem rraAbs (a : Addr) : Statement (.rraAbs a) := of_bytes 0x6F [operandLo a, operandHi a] rfl rfl

theorem bvs (off : Byte) : Statement (.bvs off) := of_bytes 0x70 [off] rfl rfl

theorem adcIzy (zp : Byte) : Statement (.adcIzy zp) := of_bytes 0x71 [zp] rfl rfl

theorem rraIzy (zp : Byte) : Statement (.rraIzy zp) := of_bytes 0x73 [zp] rfl rfl

theorem nopZpx74 (zp : Byte) : Statement (.nopZpx74 zp) := of_bytes 0x74 [zp] rfl rfl

theorem adcZpx (zp : Byte) : Statement (.adcZpx zp) := of_bytes 0x75 [zp] rfl rfl

theorem rorZpx (zp : Byte) : Statement (.rorZpx zp) := of_bytes 0x76 [zp] rfl rfl

theorem rraZpx (zp : Byte) : Statement (.rraZpx zp) := of_bytes 0x77 [zp] rfl rfl

theorem adcAby (a : Addr) : Statement (.adcAby a) := of_bytes 0x79 [operandLo a, operandHi a] rfl rfl

theorem rraAby (a : Addr) : Statement (.rraAby a) := of_bytes 0x7B [operandLo a, operandHi a] rfl rfl

theorem nopAbx7C (a : Addr) : Statement (.nopAbx7C a) := of_bytes 0x7C [operandLo a, operandHi a] rfl rfl

theorem adcAbx (a : Addr) : Statement (.adcAbx a) := of_bytes 0x7D [operandLo a, operandHi a] rfl rfl

theorem rorAbx (a : Addr) : Statement (.rorAbx a) := of_bytes 0x7E [operandLo a, operandHi a] rfl rfl

theorem rraAbx (a : Addr) : Statement (.rraAbx a) := of_bytes 0x7F [operandLo a, operandHi a] rfl rfl

theorem nopImm80 (m : Byte) : Statement (.nopImm80 m) := of_bytes 0x80 [m] rfl rfl

theorem staIzx (zp : Byte) : Statement (.staIzx zp) := of_bytes 0x81 [zp] rfl rfl

theorem nopImm82 (m : Byte) : Statement (.nopImm82 m) := of_bytes 0x82 [m] rfl rfl

theorem saxIzx (zp : Byte) : Statement (.saxIzx zp) := of_bytes 0x83 [zp] rfl rfl

theorem styZp (zp : Byte) : Statement (.styZp zp) := of_bytes 0x84 [zp] rfl rfl

theorem staZp (zp : Byte) : Statement (.staZp zp) := of_bytes 0x85 [zp] rfl rfl

theorem stxZp (zp : Byte) : Statement (.stxZp zp) := of_bytes 0x86 [zp] rfl rfl

theorem saxZp (zp : Byte) : Statement (.saxZp zp) := of_bytes 0x87 [zp] rfl rfl

theorem nopImm89 (m : Byte) : Statement (.nopImm89 m) := of_bytes 0x89 [m] rfl rfl

theorem aneImm (m : Byte) : Statement (.aneImm m) := of_bytes 0x8B [m] rfl rfl

theorem styAbs (a : Addr) : Statement (.styAbs a) := of_bytes 0x8C [operandLo a, operandHi a] rfl rfl

theorem staAbs (a : Addr) : Statement (.staAbs a) := of_bytes 0x8D [operandLo a, operandHi a] rfl rfl

theorem stxAbs (a : Addr) : Statement (.stxAbs a) := of_bytes 0x8E [operandLo a, operandHi a] rfl rfl

theorem saxAbs (a : Addr) : Statement (.saxAbs a) := of_bytes 0x8F [operandLo a, operandHi a] rfl rfl

theorem bcc (off : Byte) : Statement (.bcc off) := of_bytes 0x90 [off] rfl rfl

theorem staIzy (zp : Byte) : Statement (.staIzy zp) := of_bytes 0x91 [zp] rfl rfl

theorem shaIzy (zp : Byte) : Statement (.shaIzy zp) := of_bytes 0x93 [zp] rfl rfl

theorem styZpx (zp : Byte) : Statement (.styZpx zp) := of_bytes 0x94 [zp] rfl rfl

theorem staZpx (zp : Byte) : Statement (.staZpx zp) := of_bytes 0x95 [zp] rfl rfl

theorem stxZpy (zp : Byte) : Statement (.stxZpy zp) := of_bytes 0x96 [zp] rfl rfl

theorem saxZpy (zp : Byte) : Statement (.saxZpy zp) := of_bytes 0x97 [zp] rfl rfl

theorem staAby (a : Addr) : Statement (.staAby a) := of_bytes 0x99 [operandLo a, operandHi a] rfl rfl

theorem tasAby (a : Addr) : Statement (.tasAby a) := of_bytes 0x9B [operandLo a, operandHi a] rfl rfl

theorem shyAbx (a : Addr) : Statement (.shyAbx a) := of_bytes 0x9C [operandLo a, operandHi a] rfl rfl

theorem staAbx (a : Addr) : Statement (.staAbx a) := of_bytes 0x9D [operandLo a, operandHi a] rfl rfl

theorem shxAby (a : Addr) : Statement (.shxAby a) := of_bytes 0x9E [operandLo a, operandHi a] rfl rfl

theorem shaAby (a : Addr) : Statement (.shaAby a) := of_bytes 0x9F [operandLo a, operandHi a] rfl rfl

theorem ldyImm (m : Byte) : Statement (.ldyImm m) := of_bytes 0xA0 [m] rfl rfl

theorem ldaIzx (zp : Byte) : Statement (.ldaIzx zp) := of_bytes 0xA1 [zp] rfl rfl

theorem ldxImm (m : Byte) : Statement (.ldxImm m) := of_bytes 0xA2 [m] rfl rfl

theorem laxIzx (zp : Byte) : Statement (.laxIzx zp) := of_bytes 0xA3 [zp] rfl rfl

theorem ldyZp (zp : Byte) : Statement (.ldyZp zp) := of_bytes 0xA4 [zp] rfl rfl

theorem ldaZp (zp : Byte) : Statement (.ldaZp zp) := of_bytes 0xA5 [zp] rfl rfl

theorem ldxZp (zp : Byte) : Statement (.ldxZp zp) := of_bytes 0xA6 [zp] rfl rfl

theorem laxZp (zp : Byte) : Statement (.laxZp zp) := of_bytes 0xA7 [zp] rfl rfl

theorem ldaImm (m : Byte) : Statement (.ldaImm m) := of_bytes 0xA9 [m] rfl rfl

theorem lxaImm (m : Byte) : Statement (.lxaImm m) := of_bytes 0xAB [m] rfl rfl

theorem ldyAbs (a : Addr) : Statement (.ldyAbs a) := of_bytes 0xAC [operandLo a, operandHi a] rfl rfl

theorem ldaAbs (a : Addr) : Statement (.ldaAbs a) := of_bytes 0xAD [operandLo a, operandHi a] rfl rfl

theorem ldxAbs (a : Addr) : Statement (.ldxAbs a) := of_bytes 0xAE [operandLo a, operandHi a] rfl rfl

theorem laxAbs (a : Addr) : Statement (.laxAbs a) := of_bytes 0xAF [operandLo a, operandHi a] rfl rfl

theorem bcs (off : Byte) : Statement (.bcs off) := of_bytes 0xB0 [off] rfl rfl

theorem ldaIzy (zp : Byte) : Statement (.ldaIzy zp) := of_bytes 0xB1 [zp] rfl rfl

theorem laxIzy (zp : Byte) : Statement (.laxIzy zp) := of_bytes 0xB3 [zp] rfl rfl

theorem ldyZpx (zp : Byte) : Statement (.ldyZpx zp) := of_bytes 0xB4 [zp] rfl rfl

theorem ldaZpx (zp : Byte) : Statement (.ldaZpx zp) := of_bytes 0xB5 [zp] rfl rfl

theorem ldxZpy (zp : Byte) : Statement (.ldxZpy zp) := of_bytes 0xB6 [zp] rfl rfl

theorem laxZpy (zp : Byte) : Statement (.laxZpy zp) := of_bytes 0xB7 [zp] rfl rfl

theorem ldaAby (a : Addr) : Statement (.ldaAby a) := of_bytes 0xB9 [operandLo a, operandHi a] rfl rfl

theorem lasAby (a : Addr) : Statement (.lasAby a) := of_bytes 0xBB [operandLo a, operandHi a] rfl rfl

theorem ldyAbx (a : Addr) : Statement (.ldyAbx a) := of_bytes 0xBC [operandLo a, operandHi a] rfl rfl

theorem ldaAbx (a : Addr) : Statement (.ldaAbx a) := of_bytes 0xBD [operandLo a, operandHi a] rfl rfl

theorem ldxAby (a : Addr) : Statement (.ldxAby a) := of_bytes 0xBE [operandLo a, operandHi a] rfl rfl

theorem laxAby (a : Addr) : Statement (.laxAby a) := of_bytes 0xBF [operandLo a, operandHi a] rfl rfl

theorem cpyImm (m : Byte) : Statement (.cpyImm m) := of_bytes 0xC0 [m] rfl rfl

theorem cmpIzx (zp : Byte) : Statement (.cmpIzx zp) := of_bytes 0xC1 [zp] rfl rfl

theorem nopImmC2 (m : Byte) : Statement (.nopImmC2 m) := of_bytes 0xC2 [m] rfl rfl

theorem dcpIzx (zp : Byte) : Statement (.dcpIzx zp) := of_bytes 0xC3 [zp] rfl rfl

theorem cpyZp (zp : Byte) : Statement (.cpyZp zp) := of_bytes 0xC4 [zp] rfl rfl

theorem cmpZp (zp : Byte) : Statement (.cmpZp zp) := of_bytes 0xC5 [zp] rfl rfl

theorem decZp (zp : Byte) : Statement (.decZp zp) := of_bytes 0xC6 [zp] rfl rfl

theorem dcpZp (zp : Byte) : Statement (.dcpZp zp) := of_bytes 0xC7 [zp] rfl rfl

theorem cmpImm (m : Byte) : Statement (.cmpImm m) := of_bytes 0xC9 [m] rfl rfl

theorem axsImm (m : Byte) : Statement (.axsImm m) := of_bytes 0xCB [m] rfl rfl

theorem cpyAbs (a : Addr) : Statement (.cpyAbs a) := of_bytes 0xCC [operandLo a, operandHi a] rfl rfl

theorem cmpAbs (a : Addr) : Statement (.cmpAbs a) := of_bytes 0xCD [operandLo a, operandHi a] rfl rfl

theorem decAbs (a : Addr) : Statement (.decAbs a) := of_bytes 0xCE [operandLo a, operandHi a] rfl rfl

theorem dcpAbs (a : Addr) : Statement (.dcpAbs a) := of_bytes 0xCF [operandLo a, operandHi a] rfl rfl

theorem bne (off : Byte) : Statement (.bne off) := of_bytes 0xD0 [off] rfl rfl

theorem cmpIzy (zp : Byte) : Statement (.cmpIzy zp) := of_bytes 0xD1 [zp] rfl rfl

theorem dcpIzy (zp : Byte) : Statement (.dcpIzy zp) := of_bytes 0xD3 [zp] rfl rfl

theorem nopZpxD4 (zp : Byte) : Statement (.nopZpxD4 zp) := of_bytes 0xD4 [zp] rfl rfl

theorem cmpZpx (zp : Byte) : Statement (.cmpZpx zp) := of_bytes 0xD5 [zp] rfl rfl

theorem decZpx (zp : Byte) : Statement (.decZpx zp) := of_bytes 0xD6 [zp] rfl rfl

theorem dcpZpx (zp : Byte) : Statement (.dcpZpx zp) := of_bytes 0xD7 [zp] rfl rfl

theorem cmpAby (a : Addr) : Statement (.cmpAby a) := of_bytes 0xD9 [operandLo a, operandHi a] rfl rfl

theorem dcpAby (a : Addr) : Statement (.dcpAby a) := of_bytes 0xDB [operandLo a, operandHi a] rfl rfl

theorem nopAbxDC (a : Addr) : Statement (.nopAbxDC a) := of_bytes 0xDC [operandLo a, operandHi a] rfl rfl

theorem cmpAbx (a : Addr) : Statement (.cmpAbx a) := of_bytes 0xDD [operandLo a, operandHi a] rfl rfl

theorem decAbx (a : Addr) : Statement (.decAbx a) := of_bytes 0xDE [operandLo a, operandHi a] rfl rfl

theorem dcpAbx (a : Addr) : Statement (.dcpAbx a) := of_bytes 0xDF [operandLo a, operandHi a] rfl rfl

theorem cpxImm (m : Byte) : Statement (.cpxImm m) := of_bytes 0xE0 [m] rfl rfl

theorem sbcIzx (zp : Byte) : Statement (.sbcIzx zp) := of_bytes 0xE1 [zp] rfl rfl

theorem nopImmE2 (m : Byte) : Statement (.nopImmE2 m) := of_bytes 0xE2 [m] rfl rfl

theorem iscIzx (zp : Byte) : Statement (.iscIzx zp) := of_bytes 0xE3 [zp] rfl rfl

theorem cpxZp (zp : Byte) : Statement (.cpxZp zp) := of_bytes 0xE4 [zp] rfl rfl

theorem sbcZp (zp : Byte) : Statement (.sbcZp zp) := of_bytes 0xE5 [zp] rfl rfl

theorem incZp (zp : Byte) : Statement (.incZp zp) := of_bytes 0xE6 [zp] rfl rfl

theorem iscZp (zp : Byte) : Statement (.iscZp zp) := of_bytes 0xE7 [zp] rfl rfl

theorem sbcImm (m : Byte) : Statement (.sbcImm m) := of_bytes 0xE9 [m] rfl rfl

theorem sbcImmEB (m : Byte) : Statement (.sbcImmEB m) := of_bytes 0xEB [m] rfl rfl

theorem cpxAbs (a : Addr) : Statement (.cpxAbs a) := of_bytes 0xEC [operandLo a, operandHi a] rfl rfl

theorem sbcAbs (a : Addr) : Statement (.sbcAbs a) := of_bytes 0xED [operandLo a, operandHi a] rfl rfl

theorem incAbs (a : Addr) : Statement (.incAbs a) := of_bytes 0xEE [operandLo a, operandHi a] rfl rfl

theorem iscAbs (a : Addr) : Statement (.iscAbs a) := of_bytes 0xEF [operandLo a, operandHi a] rfl rfl

theorem beq (off : Byte) : Statement (.beq off) := of_bytes 0xF0 [off] rfl rfl

theorem sbcIzy (zp : Byte) : Statement (.sbcIzy zp) := of_bytes 0xF1 [zp] rfl rfl

theorem iscIzy (zp : Byte) : Statement (.iscIzy zp) := of_bytes 0xF3 [zp] rfl rfl

theorem nopZpxF4 (zp : Byte) : Statement (.nopZpxF4 zp) := of_bytes 0xF4 [zp] rfl rfl

theorem sbcZpx (zp : Byte) : Statement (.sbcZpx zp) := of_bytes 0xF5 [zp] rfl rfl

theorem incZpx (zp : Byte) : Statement (.incZpx zp) := of_bytes 0xF6 [zp] rfl rfl

theorem iscZpx (zp : Byte) : Statement (.iscZpx zp) := of_bytes 0xF7 [zp] rfl rfl

theorem sbcAby (a : Addr) : Statement (.sbcAby a) := of_bytes 0xF9 [operandLo a, operandHi a] rfl rfl

theorem iscAby (a : Addr) : Statement (.iscAby a) := of_bytes 0xFB [operandLo a, operandHi a] rfl rfl

theorem nopAbxFC (a : Addr) : Statement (.nopAbxFC a) := of_bytes 0xFC [operandLo a, operandHi a] rfl rfl

theorem sbcAbx (a : Addr) : Statement (.sbcAbx a) := of_bytes 0xFD [operandLo a, operandHi a] rfl rfl

theorem incAbx (a : Addr) : Statement (.incAbx a) := of_bytes 0xFE [operandLo a, operandHi a] rfl rfl

theorem iscAbx (a : Addr) : Statement (.iscAbx a) := of_bytes 0xFF [operandLo a, operandHi a] rfl rfl

theorem brk : Statement .brk := of_bytes 0x00 [] rfl rfl

theorem jam02 : Statement .jam02 := of_bytes 0x02 [] rfl rfl

theorem php : Statement .php := of_bytes 0x08 [] rfl rfl

theorem aslAcc : Statement .aslAcc := of_bytes 0x0A [] rfl rfl

theorem jam12 : Statement .jam12 := of_bytes 0x12 [] rfl rfl

theorem clc : Statement .clc := of_bytes 0x18 [] rfl rfl

theorem nopImp1A : Statement .nopImp1A := of_bytes 0x1A [] rfl rfl

theorem jam22 : Statement .jam22 := of_bytes 0x22 [] rfl rfl

theorem plp : Statement .plp := of_bytes 0x28 [] rfl rfl

theorem rolAcc : Statement .rolAcc := of_bytes 0x2A [] rfl rfl

theorem jam32 : Statement .jam32 := of_bytes 0x32 [] rfl rfl

theorem sec : Statement .sec := of_bytes 0x38 [] rfl rfl

theorem nopImp3A : Statement .nopImp3A := of_bytes 0x3A [] rfl rfl

theorem rti : Statement .rti := of_bytes 0x40 [] rfl rfl

theorem jam42 : Statement .jam42 := of_bytes 0x42 [] rfl rfl

theorem pha : Statement .pha := of_bytes 0x48 [] rfl rfl

theorem lsrAcc : Statement .lsrAcc := of_bytes 0x4A [] rfl rfl

theorem jam52 : Statement .jam52 := of_bytes 0x52 [] rfl rfl

theorem cli : Statement .cli := of_bytes 0x58 [] rfl rfl

theorem nopImp5A : Statement .nopImp5A := of_bytes 0x5A [] rfl rfl

theorem rts : Statement .rts := of_bytes 0x60 [] rfl rfl

theorem jam62 : Statement .jam62 := of_bytes 0x62 [] rfl rfl

theorem pla : Statement .pla := of_bytes 0x68 [] rfl rfl

theorem rorAcc : Statement .rorAcc := of_bytes 0x6A [] rfl rfl

theorem jam72 : Statement .jam72 := of_bytes 0x72 [] rfl rfl

theorem sei : Statement .sei := of_bytes 0x78 [] rfl rfl

theorem nopImp7A : Statement .nopImp7A := of_bytes 0x7A [] rfl rfl

theorem dey : Statement .dey := of_bytes 0x88 [] rfl rfl

theorem txa : Statement .txa := of_bytes 0x8A [] rfl rfl

theorem jam92 : Statement .jam92 := of_bytes 0x92 [] rfl rfl

theorem tya : Statement .tya := of_bytes 0x98 [] rfl rfl

theorem txs : Statement .txs := of_bytes 0x9A [] rfl rfl

theorem tay : Statement .tay := of_bytes 0xA8 [] rfl rfl

theorem tax : Statement .tax := of_bytes 0xAA [] rfl rfl

theorem jamB2 : Statement .jamB2 := of_bytes 0xB2 [] rfl rfl

theorem clv : Statement .clv := of_bytes 0xB8 [] rfl rfl

theorem tsx : Statement .tsx := of_bytes 0xBA [] rfl rfl

theorem iny : Statement .iny := of_bytes 0xC8 [] rfl rfl

theorem dex : Statement .dex := of_bytes 0xCA [] rfl rfl

theorem jamD2 : Statement .jamD2 := of_bytes 0xD2 [] rfl rfl

theorem cld : Statement .cld := of_bytes 0xD8 [] rfl rfl

theorem nopImpDA : Statement .nopImpDA := of_bytes 0xDA [] rfl rfl

theorem inx : Statement .inx := of_bytes 0xE8 [] rfl rfl

theorem nop : Statement .nop := of_bytes 0xEA [] rfl rfl

theorem jamF2 : Statement .jamF2 := of_bytes 0xF2 [] rfl rfl

theorem sed : Statement .sed := of_bytes 0xF8 [] rfl rfl

theorem nopImpFA : Statement .nopImpFA := of_bytes 0xFA [] rfl rfl

end EncodedLength

end Sys2Proof.Laws
end

