-- ==== Sys2Proof/Machine/Listing.lean ====
section
/-! DEFINITION. The assembler syntax of the spec's listings (spec/30_encoding.md R92, R93): one line is one
machine instruction, a mnemonic and an operand whose form names the addressing mode. It reads nothing and
changes nothing of the machine. -/

namespace Sys2Proof.Machine

/-- An upper-case hexadecimal digit. -/
def hexDigit (n : Nat) : Char := "0123456789ABCDEF".toList.getD (n % 16) '0'

/-- A byte as two hexadecimal digits. -/
def hexByte (b : Byte) : String := String.ofList [hexDigit (b.toNat / 16), hexDigit b.toNat]

/-- An address as four hexadecimal digits. -/
def hexAddr (a : Addr) : String := hexByte (hiByte a) ++ hexByte (loByte a)

/-- The operand text of a format; a branch shows its target, taken from the address `next` after it (R92). -/
def operandText (f : Format) (b1 b2 : Byte) (next : Addr) : String :=
  match f with
  | .imp => ""
  | .acc => " A"
  | .imm => " #$" ++ hexByte b1
  | .zp => " $" ++ hexByte b1
  | .zpx => " $" ++ hexByte b1 ++ ",X"
  | .zpy => " $" ++ hexByte b1 ++ ",Y"
  | .abs => " $" ++ hexAddr (operandAddr b1 b2)
  | .abx => " $" ++ hexAddr (operandAddr b1 b2) ++ ",X"
  | .aby => " $" ++ hexAddr (operandAddr b1 b2) ++ ",Y"
  | .ind => " ($" ++ hexAddr (operandAddr b1 b2) ++ ")"
  | .izx => " ($" ++ hexByte b1 ++ ",X)"
  | .izy => " ($" ++ hexByte b1 ++ "),Y"
  | .rel => " $" ++ hexAddr (branchTarget b1 next)

/-- The listing line of the instruction `op b1 b2` at address `pc` (R92). -/
def listing (pc : Addr) (op b1 b2 : Byte) : String :=
  opMnemonic op ++ operandText (opFormat op) b1 b2 (pc + BitVec.ofNat 16 (opLength op))

/-- The offset byte an assembler stores for a branch at `pc` to `target`, when it is in range (R92). -/
def branchOffset (pc target : Addr) : Option Byte :=
  let d := target - (pc + 2)
  if (d.setWidth 8).signExtend 16 = d then some (d.setWidth 8) else none

end Sys2Proof.Machine
end

