-- ==== Sys2Proof/Tests/Slice0.lean ====
section
/-! SUPPORT. The model's own tests. The expected values are the spec's: the opcode matrix R86, the worked
vectors T1 to T95 and V1 to V4 of spec/95_test_vectors.md, the rules named in a test's comment. The witnesses
at the end show, for each obligation that has hypotheses, operands and a state that meet them. -/

namespace Sys2Proof.Tests

open Sys2Proof.Machine Sys2Proof.Claims

/-! ## Well-formedness: an operand that fits each format and one that does not (R81, R83, R92) -/

theorem test_fits_imp : operandFits .imp 0 = true ∧ operandFits .imp 1 = false := by decide
theorem test_fits_acc : operandFits .acc 0 = true ∧ operandFits .acc (-1) = false := by decide
theorem test_fits_imm : operandFits .imm 255 = true ∧ operandFits .imm 256 = false := by decide
theorem test_fits_zp : operandFits .zp 255 = true ∧ operandFits .zp 256 = false := by decide
theorem test_fits_zpx : operandFits .zpx 0 = true ∧ operandFits .zpx (-1) = false := by decide
theorem test_fits_zpy : operandFits .zpy 255 = true ∧ operandFits .zpy 256 = false := by decide
theorem test_fits_abs : operandFits .abs 65535 = true ∧ operandFits .abs 65536 = false := by decide
theorem test_fits_abx : operandFits .abx 0 = true ∧ operandFits .abx (-1) = false := by decide
theorem test_fits_aby : operandFits .aby 65535 = true ∧ operandFits .aby 65536 = false := by decide
theorem test_fits_ind : operandFits .ind 65535 = true ∧ operandFits .ind 65536 = false := by decide
theorem test_fits_izx : operandFits .izx 255 = true ∧ operandFits .izx 256 = false := by decide
theorem test_fits_izy : operandFits .izy 0 = true ∧ operandFits .izy 256 = false := by decide
theorem test_fits_rel : operandFits .rel (-128) = true ∧ operandFits .rel 127 = true
    ∧ operandFits .rel 128 = false ∧ operandFits .rel (-129) = false := by decide

/-! ## Decoding: the opcode matrix (R86), every opcode byte followed by the bytes 0x34 0x12 -/

/-- One row of the matrix as the decoder reads it: the instruction, how many of the bytes 0x34 0x12 it leaves,
the base cycles, the page-cross mark. -/
def matrixRow (hi : Nat) : List (Instr × Nat × Nat × Bool) :=
  (List.range 16).filterMap fun lo =>
    let op := BitVec.ofNat 8 (hi + lo)
    match decode [op, 0x34, 0x12] with
    | .ok r => some (r.1, r.2.length, opCycles op, opPenalty op)
    | .error _ => none

theorem test_decode_row_0 : matrixRow 0x00 =
    [(.brk, 2, 7, false), (.oraIzx 0x34, 1, 6, false), (.jam02, 2, 2, false),
      (.sloIzx 0x34, 1, 8, false), (.nopZp04 0x34, 1, 3, false), (.oraZp 0x34, 1, 3, false),
      (.aslZp 0x34, 1, 5, false), (.sloZp 0x34, 1, 5, false), (.php, 2, 3, false),
      (.oraImm 0x34, 1, 2, false), (.aslAcc, 2, 2, false), (.ancImm0B 0x34, 1, 2, false),
      (.nopAbs0C 0x1234, 0, 4, false), (.oraAbs 0x1234, 0, 4, false), (.aslAbs 0x1234, 0, 6, false),
      (.sloAbs 0x1234, 0, 6, false)] := by decide

theorem test_decode_row_1 : matrixRow 0x10 =
    [(.bpl 0x34, 1, 2, false), (.oraIzy 0x34, 1, 5, true), (.jam12, 2, 2, false),
      (.sloIzy 0x34, 1, 8, false), (.nopZpx14 0x34, 1, 4, false), (.oraZpx 0x34, 1, 4, false),
      (.aslZpx 0x34, 1, 6, false), (.sloZpx 0x34, 1, 6, false), (.clc, 2, 2, false),
      (.oraAby 0x1234, 0, 4, true), (.nopImp1A, 2, 2, false), (.sloAby 0x1234, 0, 7, false),
      (.nopAbx1C 0x1234, 0, 4, true), (.oraAbx 0x1234, 0, 4, true), (.aslAbx 0x1234, 0, 7, false),
      (.sloAbx 0x1234, 0, 7, false)] := by decide

theorem test_decode_row_2 : matrixRow 0x20 =
    [(.jsr 0x1234, 0, 6, false), (.andIzx 0x34, 1, 6, false), (.jam22, 2, 2, false),
      (.rlaIzx 0x34, 1, 8, false), (.bitZp 0x34, 1, 3, false), (.andZp 0x34, 1, 3, false),
      (.rolZp 0x34, 1, 5, false), (.rlaZp 0x34, 1, 5, false), (.plp, 2, 4, false),
      (.andImm 0x34, 1, 2, false), (.rolAcc, 2, 2, false), (.ancImm2B 0x34, 1, 2, false),
      (.bitAbs 0x1234, 0, 4, false), (.andAbs 0x1234, 0, 4, false), (.rolAbs 0x1234, 0, 6, false),
      (.rlaAbs 0x1234, 0, 6, false)] := by decide

theorem test_decode_row_3 : matrixRow 0x30 =
    [(.bmi 0x34, 1, 2, false), (.andIzy 0x34, 1, 5, true), (.jam32, 2, 2, false),
      (.rlaIzy 0x34, 1, 8, false), (.nopZpx34 0x34, 1, 4, false), (.andZpx 0x34, 1, 4, false),
      (.rolZpx 0x34, 1, 6, false), (.rlaZpx 0x34, 1, 6, false), (.sec, 2, 2, false),
      (.andAby 0x1234, 0, 4, true), (.nopImp3A, 2, 2, false), (.rlaAby 0x1234, 0, 7, false),
      (.nopAbx3C 0x1234, 0, 4, true), (.andAbx 0x1234, 0, 4, true), (.rolAbx 0x1234, 0, 7, false),
      (.rlaAbx 0x1234, 0, 7, false)] := by decide

theorem test_decode_row_4 : matrixRow 0x40 =
    [(.rti, 2, 6, false), (.eorIzx 0x34, 1, 6, false), (.jam42, 2, 2, false),
      (.sreIzx 0x34, 1, 8, false), (.nopZp44 0x34, 1, 3, false), (.eorZp 0x34, 1, 3, false),
      (.lsrZp 0x34, 1, 5, false), (.sreZp 0x34, 1, 5, false), (.pha, 2, 3, false),
      (.eorImm 0x34, 1, 2, false), (.lsrAcc, 2, 2, false), (.alrImm 0x34, 1, 2, false),
      (.jmpAbs 0x1234, 0, 3, false), (.eorAbs 0x1234, 0, 4, false), (.lsrAbs 0x1234, 0, 6, false),
      (.sreAbs 0x1234, 0, 6, false)] := by decide

theorem test_decode_row_5 : matrixRow 0x50 =
    [(.bvc 0x34, 1, 2, false), (.eorIzy 0x34, 1, 5, true), (.jam52, 2, 2, false),
      (.sreIzy 0x34, 1, 8, false), (.nopZpx54 0x34, 1, 4, false), (.eorZpx 0x34, 1, 4, false),
      (.lsrZpx 0x34, 1, 6, false), (.sreZpx 0x34, 1, 6, false), (.cli, 2, 2, false),
      (.eorAby 0x1234, 0, 4, true), (.nopImp5A, 2, 2, false), (.sreAby 0x1234, 0, 7, false),
      (.nopAbx5C 0x1234, 0, 4, true), (.eorAbx 0x1234, 0, 4, true), (.lsrAbx 0x1234, 0, 7, false),
      (.sreAbx 0x1234, 0, 7, false)] := by decide

theorem test_decode_row_6 : matrixRow 0x60 =
    [(.rts, 2, 6, false), (.adcIzx 0x34, 1, 6, false), (.jam62, 2, 2, false),
      (.rraIzx 0x34, 1, 8, false), (.nopZp64 0x34, 1, 3, false), (.adcZp 0x34, 1, 3, false),
      (.rorZp 0x34, 1, 5, false), (.rraZp 0x34, 1, 5, false), (.pla, 2, 4, false),
      (.adcImm 0x34, 1, 2, false), (.rorAcc, 2, 2, false), (.arrImm 0x34, 1, 2, false),
      (.jmpInd 0x1234, 0, 5, false), (.adcAbs 0x1234, 0, 4, false), (.rorAbs 0x1234, 0, 6, false),
      (.rraAbs 0x1234, 0, 6, false)] := by decide

theorem test_decode_row_7 : matrixRow 0x70 =
    [(.bvs 0x34, 1, 2, false), (.adcIzy 0x34, 1, 5, true), (.jam72, 2, 2, false),
      (.rraIzy 0x34, 1, 8, false), (.nopZpx74 0x34, 1, 4, false), (.adcZpx 0x34, 1, 4, false),
      (.rorZpx 0x34, 1, 6, false), (.rraZpx 0x34, 1, 6, false), (.sei, 2, 2, false),
      (.adcAby 0x1234, 0, 4, true), (.nopImp7A, 2, 2, false), (.rraAby 0x1234, 0, 7, false),
      (.nopAbx7C 0x1234, 0, 4, true), (.adcAbx 0x1234, 0, 4, true), (.rorAbx 0x1234, 0, 7, false),
      (.rraAbx 0x1234, 0, 7, false)] := by decide

theorem test_decode_row_8 : matrixRow 0x80 =
    [(.nopImm80 0x34, 1, 2, false), (.staIzx 0x34, 1, 6, false), (.nopImm82 0x34, 1, 2, false),
      (.saxIzx 0x34, 1, 6, false), (.styZp 0x34, 1, 3, false), (.staZp 0x34, 1, 3, false),
      (.stxZp 0x34, 1, 3, false), (.saxZp 0x34, 1, 3, false), (.dey, 2, 2, false),
      (.nopImm89 0x34, 1, 2, false), (.txa, 2, 2, false), (.aneImm 0x34, 1, 2, false),
      (.styAbs 0x1234, 0, 4, false), (.staAbs 0x1234, 0, 4, false), (.stxAbs 0x1234, 0, 4, false),
      (.saxAbs 0x1234, 0, 4, false)] := by decide

theorem test_decode_row_9 : matrixRow 0x90 =
    [(.bcc 0x34, 1, 2, false), (.staIzy 0x34, 1, 6, false), (.jam92, 2, 2, false),
      (.shaIzy 0x34, 1, 6, false), (.styZpx 0x34, 1, 4, false), (.staZpx 0x34, 1, 4, false),
      (.stxZpy 0x34, 1, 4, false), (.saxZpy 0x34, 1, 4, false), (.tya, 2, 2, false),
      (.staAby 0x1234, 0, 5, false), (.txs, 2, 2, false), (.tasAby 0x1234, 0, 5, false),
      (.shyAbx 0x1234, 0, 5, false), (.staAbx 0x1234, 0, 5, false), (.shxAby 0x1234, 0, 5, false),
      (.shaAby 0x1234, 0, 5, false)] := by decide

theorem test_decode_row_A : matrixRow 0xA0 =
    [(.ldyImm 0x34, 1, 2, false), (.ldaIzx 0x34, 1, 6, false), (.ldxImm 0x34, 1, 2, false),
      (.laxIzx 0x34, 1, 6, false), (.ldyZp 0x34, 1, 3, false), (.ldaZp 0x34, 1, 3, false),
      (.ldxZp 0x34, 1, 3, false), (.laxZp 0x34, 1, 3, false), (.tay, 2, 2, false),
      (.ldaImm 0x34, 1, 2, false), (.tax, 2, 2, false), (.lxaImm 0x34, 1, 2, false),
      (.ldyAbs 0x1234, 0, 4, false), (.ldaAbs 0x1234, 0, 4, false), (.ldxAbs 0x1234, 0, 4, false),
      (.laxAbs 0x1234, 0, 4, false)] := by decide

theorem test_decode_row_B : matrixRow 0xB0 =
    [(.bcs 0x34, 1, 2, false), (.ldaIzy 0x34, 1, 5, true), (.jamB2, 2, 2, false),
      (.laxIzy 0x34, 1, 5, true), (.ldyZpx 0x34, 1, 4, false), (.ldaZpx 0x34, 1, 4, false),
      (.ldxZpy 0x34, 1, 4, false), (.laxZpy 0x34, 1, 4, false), (.clv, 2, 2, false),
      (.ldaAby 0x1234, 0, 4, true), (.tsx, 2, 2, false), (.lasAby 0x1234, 0, 4, true),
      (.ldyAbx 0x1234, 0, 4, true), (.ldaAbx 0x1234, 0, 4, true), (.ldxAby 0x1234, 0, 4, true),
      (.laxAby 0x1234, 0, 4, true)] := by decide

theorem test_decode_row_C : matrixRow 0xC0 =
    [(.cpyImm 0x34, 1, 2, false), (.cmpIzx 0x34, 1, 6, false), (.nopImmC2 0x34, 1, 2, false),
      (.dcpIzx 0x34, 1, 8, false), (.cpyZp 0x34, 1, 3, false), (.cmpZp 0x34, 1, 3, false),
      (.decZp 0x34, 1, 5, false), (.dcpZp 0x34, 1, 5, false), (.iny, 2, 2, false),
      (.cmpImm 0x34, 1, 2, false), (.dex, 2, 2, false), (.axsImm 0x34, 1, 2, false),
      (.cpyAbs 0x1234, 0, 4, false), (.cmpAbs 0x1234, 0, 4, false), (.decAbs 0x1234, 0, 6, false),
      (.dcpAbs 0x1234, 0, 6, false)] := by decide

theorem test_decode_row_D : matrixRow 0xD0 =
    [(.bne 0x34, 1, 2, false), (.cmpIzy 0x34, 1, 5, true), (.jamD2, 2, 2, false),
      (.dcpIzy 0x34, 1, 8, false), (.nopZpxD4 0x34, 1, 4, false), (.cmpZpx 0x34, 1, 4, false),
      (.decZpx 0x34, 1, 6, false), (.dcpZpx 0x34, 1, 6, false), (.cld, 2, 2, false),
      (.cmpAby 0x1234, 0, 4, true), (.nopImpDA, 2, 2, false), (.dcpAby 0x1234, 0, 7, false),
      (.nopAbxDC 0x1234, 0, 4, true), (.cmpAbx 0x1234, 0, 4, true), (.decAbx 0x1234, 0, 7, false),
      (.dcpAbx 0x1234, 0, 7, false)] := by decide

theorem test_decode_row_E : matrixRow 0xE0 =
    [(.cpxImm 0x34, 1, 2, false), (.sbcIzx 0x34, 1, 6, false), (.nopImmE2 0x34, 1, 2, false),
      (.iscIzx 0x34, 1, 8, false), (.cpxZp 0x34, 1, 3, false), (.sbcZp 0x34, 1, 3, false),
      (.incZp 0x34, 1, 5, false), (.iscZp 0x34, 1, 5, false), (.inx, 2, 2, false),
      (.sbcImm 0x34, 1, 2, false), (.nop, 2, 2, false), (.sbcImmEB 0x34, 1, 2, false),
      (.cpxAbs 0x1234, 0, 4, false), (.sbcAbs 0x1234, 0, 4, false), (.incAbs 0x1234, 0, 6, false),
      (.iscAbs 0x1234, 0, 6, false)] := by decide

theorem test_decode_row_F : matrixRow 0xF0 =
    [(.beq 0x34, 1, 2, false), (.sbcIzy 0x34, 1, 5, true), (.jamF2, 2, 2, false),
      (.iscIzy 0x34, 1, 8, false), (.nopZpxF4 0x34, 1, 4, false), (.sbcZpx 0x34, 1, 4, false),
      (.incZpx 0x34, 1, 6, false), (.iscZpx 0x34, 1, 6, false), (.sed, 2, 2, false),
      (.sbcAby 0x1234, 0, 4, true), (.nopImpFA, 2, 2, false), (.iscAby 0x1234, 0, 7, false),
      (.nopAbxFC 0x1234, 0, 4, true), (.sbcAbx 0x1234, 0, 4, true), (.incAbx 0x1234, 0, 7, false),
      (.iscAbx 0x1234, 0, 7, false)] := by decide

/-! ## Single steps (spec/95_test_vectors.md section 2) -/

/-- The reset state with a program at `base`, RAM cells listed, and the registers changed. -/
def start (base : Addr) (code : List Byte) (ram : Memory) (f : Cpu → Cpu) : State :=
  { State.reset with
    cpu := f { State.reset.cpu with pc := base }
    ram := ram
    cart := { blankCartridge with prg := cellsFrom (prgIndex blankCartridge base) code } }

/-- A vector's high byte in program memory. -/
def withVector (k : Nat) (hi : Byte) (s : State) : State :=
  { s with cart := { s.cart with prg := writeCell s.cart.prg k hi } }

/-- The IRQ line high. -/
def withIrq (s : State) : State := { s with irqLine := true }

/-- The vertical-blank flag set with NMI enabled. -/
def withVblank (s : State) : State := { s with ppu := { s.ppu with vblank := true, ctrl := 0x80 } }

/-- The state after one step. -/
def after (s : State) : Option State :=
  match step s with
  | .next t => some t
  | .fault _ => none
  | .refused _ => none

/-- What a read of a RAM address answers. -/
def ramByte (s : State) (a : Addr) : Byte := (busRead a s).1

/-- T2: LDA #$80. -/
theorem test_T2 : (after (start 0x8000 [0xA9, 0x80] [] id)).map
    (fun t => (t.cpu.a, t.cpu.p, t.cpu.pc, t.cycles)) = some (0x80, 0xA4, 0x8002, 2) := by decide

/-- T3: LDA $12F0,X. -/
theorem test_T3 : (after (start 0x8000 [0xBD, 0xF0, 0x12] [(0x310, 0x7F)] (fun c => { c with x := 0x20 }))).map
    (fun t => (t.cpu.a, t.cpu.pc, t.cycles)) = some (0x7F, 0x8003, 5) := by decide

/-- T4: LDA $12F0,X. -/
theorem test_T4 : (after (start 0x8000 [0xBD, 0xF0, 0x12] [(0x2FF, 0x01)] (fun c => { c with x := 0x0F }))).map
    (fun t => (t.cpu.a, t.cpu.pc, t.cycles)) = some (0x01, 0x8003, 4) := by decide

/-- T5: LDA ($10),Y. -/
theorem test_T5 : (after (start 0x8000 [0xB1, 0x10] [(0x010, 0xF0), (0x011, 0x12), (0x310, 0xC3)] (fun c => { c with y := 0x20 }))).map
    (fun t => (t.cpu.a, t.cpu.p, t.cpu.pc, t.cycles)) = some (0xC3, 0xA4, 0x8002, 6) := by decide

/-- T6: LDA ($FF),Y. -/
theorem test_T6 : (after (start 0x8000 [0xB1, 0xFF] [(0x000, 0x03), (0x301, 0x42)] (fun c => { c with y := 0x01 }))).map
    (fun t => (t.cpu.a, t.cpu.pc, t.cycles)) = some (0x42, 0x8002, 5) := by decide

/-- T7: LDA ($FE,X). -/
theorem test_T7 : (after (start 0x8000 [0xA1, 0xFE] [(0x000, 0x02), (0x0FF, 0x34), (0x234, 0x99)] (fun c => { c with x := 0x01 }))).map
    (fun t => (t.cpu.a, t.cpu.p, t.cpu.pc, t.cycles)) = some (0x99, 0xA4, 0x8002, 6) := by decide

/-- T8: LDX $FF,Y. -/
theorem test_T8 : (after (start 0x8000 [0xB6, 0xFF] [(0x001, 0x07)] (fun c => { c with y := 0x02 }))).map
    (fun t => (t.cpu.x, t.cpu.pc, t.cycles)) = some (0x07, 0x8002, 4) := by decide

/-- T9: LDY $1FFF,X. -/
theorem test_T9 : (after (start 0x8000 [0xBC, 0xFF, 0x1F] [] (fun c => { c with x := 0x01 }))).map
    (fun t => (t.cpu.p, t.cpu.pc, t.cycles)) = some (0x26, 0x8003, 5) := by decide

/-- T10: STA $12F0,X. -/
theorem test_T10 : (after (start 0x8000 [0x9D, 0xF0, 0x12] [] (fun c => { c with a := 0x5A, x := 0x20 }))).map
    (fun t => (t.cpu.pc, ramByte t 0x1310, t.cycles)) = some (0x8003, 0x5A, 5) := by decide

/-- T11: STA ($10),Y. -/
theorem test_T11 : (after (start 0x8000 [0x91, 0x10] [(0x010, 0x01), (0x011, 0x03)] (fun c => { c with a := 0x77, y := 0xFF }))).map
    (fun t => (t.cpu.pc, ramByte t 0x0400, t.cycles)) = some (0x8002, 0x77, 6) := by decide

/-- T12: STA $0800. -/
theorem test_T12 : (after (start 0x8000 [0x8D, 0x00, 0x08] [] (fun c => { c with a := 0xAB }))).map
    (fun t => (t.cpu.pc, ramByte t 0x0000, t.cycles)) = some (0x8003, 0xAB, 4) := by decide

/-- T13: STX $F0,Y. -/
theorem test_T13 : (after (start 0x8000 [0x96, 0xF0] [] (fun c => { c with x := 0x33, y := 0x20 }))).map
    (fun t => (t.cpu.pc, ramByte t 0x0010, t.cycles)) = some (0x8002, 0x33, 4) := by decide

/-- T14: STA $8000. -/
theorem test_T14 : (after (start 0x8000 [0x8D, 0x00, 0x80] [] (fun c => { c with a := 0x12 }))).map
    (fun t => (t.cpu.pc, t.cycles)) = some (0x8003, 4) := by decide

/-- T15: TAX. -/
theorem test_T15 : (after (start 0x8000 [0xAA] [] (fun c => { c with a := 0x00, x := 0x11 }))).map
    (fun t => (t.cpu.x, t.cpu.p, t.cpu.pc, t.cycles)) = some (0x00, 0x26, 0x8001, 2) := by decide

/-- T16: TXS. -/
theorem test_T16 : (after (start 0x8000 [0x9A] [] (fun c => { c with x := 0x00 }))).map
    (fun t => (t.cpu.sp, t.cpu.pc, t.cycles)) = some (0x00, 0x8001, 2) := by decide

/-- T17: TSX. -/
theorem test_T17 : (after (start 0x8000 [0xBA] [] (fun c => { c with sp := 0x80 }))).map
    (fun t => (t.cpu.x, t.cpu.p, t.cpu.pc, t.cycles)) = some (0x80, 0xA4, 0x8001, 2) := by decide

/-- T18: TYA. -/
theorem test_T18 : (after (start 0x8000 [0x98] [] (fun c => { c with y := 0xFF }))).map
    (fun t => (t.cpu.a, t.cpu.p, t.cpu.pc, t.cycles)) = some (0xFF, 0xA4, 0x8001, 2) := by decide

/-- T19: ADC #$50. -/
theorem test_T19 : (after (start 0x8000 [0x69, 0x50] [] (fun c => { c with a := 0x50 }))).map
    (fun t => (t.cpu.a, t.cpu.p, t.cpu.pc, t.cycles)) = some (0xA0, 0xE4, 0x8002, 2) := by decide

/-- T23: ADC #$09 (D=1). -/
theorem test_T23 : (after (start 0x8000 [0x69, 0x09] [] (fun c => { c with a := 0x09, p := 0x2C }))).map
    (fun t => (t.cpu.a, t.cpu.pc, t.cycles)) = some (0x12, 0x8002, 2) := by decide

/-- T26: SBC #$00 (C=0). -/
theorem test_T26 : (after (start 0x8000 [0xE9, 0x00] [] (fun c => { c with a := 0x80, p := 0x24 }))).map
    (fun t => (t.cpu.a, t.cpu.p, t.cpu.pc, t.cycles)) = some (0x7F, 0x65, 0x8002, 2) := by decide

/-- T27: SBC #$B0. -/
theorem test_T27 : (after (start 0x8000 [0xE9, 0xB0] [] (fun c => { c with a := 0x50, p := 0x25 }))).map
    (fun t => (t.cpu.a, t.cpu.p, t.cpu.pc, t.cycles)) = some (0xA0, 0xE4, 0x8002, 2) := by decide

/-- T29: CMP #$41. -/
theorem test_T29 : (after (start 0x8000 [0xC9, 0x41] [] (fun c => { c with a := 0x40 }))).map
    (fun t => (t.cpu.p, t.cpu.pc, t.cycles)) = some (0xA4, 0x8002, 2) := by decide

/-- T30: CMP #$00. -/
theorem test_T30 : (after (start 0x8000 [0xC9, 0x00] [] (fun c => { c with a := 0x80 }))).map
    (fun t => (t.cpu.p, t.cpu.pc, t.cycles)) = some (0xA5, 0x8002, 2) := by decide

/-- T31: CPX #$FF. -/
theorem test_T31 : (after (start 0x8000 [0xE0, 0xFF] [] (fun c => { c with x := 0x00 }))).map
    (fun t => (t.cpu.pc, t.cycles)) = some (0x8002, 2) := by decide

/-- T32: CPY $10. -/
theorem test_T32 : (after (start 0x8000 [0xC4, 0x10] [(0x010, 0x0F)] (fun c => { c with y := 0x10 }))).map
    (fun t => (t.cpu.p, t.cpu.pc, t.cycles)) = some (0x25, 0x8002, 3) := by decide

/-- T33: AND #$0F. -/
theorem test_T33 : (after (start 0x8000 [0x29, 0x0F] [] (fun c => { c with a := 0xF0 }))).map
    (fun t => (t.cpu.a, t.cpu.p, t.cpu.pc, t.cycles)) = some (0x00, 0x26, 0x8002, 2) := by decide

/-- T34: ORA #$80. -/
theorem test_T34 : (after (start 0x8000 [0x09, 0x80] [] (fun c => { c with a := 0x01 }))).map
    (fun t => (t.cpu.a, t.cpu.p, t.cpu.pc, t.cycles)) = some (0x81, 0xA4, 0x8002, 2) := by decide

/-- T35: EOR #$FF. -/
theorem test_T35 : (after (start 0x8000 [0x49, 0xFF] [] (fun c => { c with a := 0xFF }))).map
    (fun t => (t.cpu.a, t.cpu.p, t.cpu.pc, t.cycles)) = some (0x00, 0x26, 0x8002, 2) := by decide

/-- T36: BIT $10. -/
theorem test_T36 : (after (start 0x8000 [0x24, 0x10] [(0x010, 0xC0)] (fun c => { c with a := 0x01 }))).map
    (fun t => (t.cpu.p, t.cpu.pc, t.cycles)) = some (0xE6, 0x8002, 3) := by decide

/-- T37: BIT $10. -/
theorem test_T37 : (after (start 0x8000 [0x24, 0x10] [(0x010, 0x3F)] (fun c => { c with a := 0xFF, p := 0xE4 }))).map
    (fun t => (t.cpu.p, t.cpu.pc, t.cycles)) = some (0x24, 0x8002, 3) := by decide

/-- T38: INC $10. -/
theorem test_T38 : (after (start 0x8000 [0xE6, 0x10] [(0x010, 0xFF)] id)).map
    (fun t => (t.cpu.p, t.cpu.pc, ramByte t 0x0010, t.cycles)) = some (0x26, 0x8002, 0x00, 5) := by decide

/-- T39: DEC $1234,X. -/
theorem test_T39 : (after (start 0x8000 [0xDE, 0x34, 0x12] [] (fun c => { c with x := 0xFF }))).map
    (fun t => (t.cpu.p, t.cpu.pc, ramByte t 0x1333, t.cycles)) = some (0xA4, 0x8003, 0xFF, 7) := by decide

/-- T40: INX. -/
theorem test_T40 : (after (start 0x8000 [0xE8] [] (fun c => { c with x := 0xFF }))).map
    (fun t => (t.cpu.x, t.cpu.p, t.cpu.pc, t.cycles)) = some (0x00, 0x26, 0x8001, 2) := by decide

/-- T41: DEY. -/
theorem test_T41 : (after (start 0x8000 [0x88] [] (fun c => { c with y := 0x00 }))).map
    (fun t => (t.cpu.y, t.cpu.p, t.cpu.pc, t.cycles)) = some (0xFF, 0xA4, 0x8001, 2) := by decide

/-- T42: INY. -/
theorem test_T42 : (after (start 0x8000 [0xC8] [] (fun c => { c with y := 0x7F }))).map
    (fun t => (t.cpu.y, t.cpu.p, t.cpu.pc, t.cycles)) = some (0x80, 0xA4, 0x8001, 2) := by decide

/-- T43: ASL A. -/
theorem test_T43 : (after (start 0x8000 [0x0A] [] (fun c => { c with a := 0x80 }))).map
    (fun t => (t.cpu.a, t.cpu.p, t.cpu.pc, t.cycles)) = some (0x00, 0x27, 0x8001, 2) := by decide

/-- T44: LSR A. -/
theorem test_T44 : (after (start 0x8000 [0x4A] [] (fun c => { c with a := 0x01, p := 0xA4 }))).map
    (fun t => (t.cpu.a, t.cpu.p, t.cpu.pc, t.cycles)) = some (0x00, 0x27, 0x8001, 2) := by decide

/-- T45: ROL A. -/
theorem test_T45 : (after (start 0x8000 [0x2A] [] (fun c => { c with a := 0x40, p := 0x25 }))).map
    (fun t => (t.cpu.a, t.cpu.p, t.cpu.pc, t.cycles)) = some (0x81, 0xA4, 0x8001, 2) := by decide

/-- T46: ROR A. -/
theorem test_T46 : (after (start 0x8000 [0x6A] [] (fun c => { c with a := 0x00, p := 0x25 }))).map
    (fun t => (t.cpu.a, t.cpu.p, t.cpu.pc, t.cycles)) = some (0x80, 0xA4, 0x8001, 2) := by decide

/-- T47: ROR $10,X. -/
theorem test_T47 : (after (start 0x8000 [0x76, 0x10] [(0x001, 0x01)] (fun c => { c with x := 0xF1, p := 0x24 }))).map
    (fun t => (t.cpu.p, t.cpu.pc, ramByte t 0x0001, t.cycles)) = some (0x27, 0x8002, 0x00, 6) := by decide

/-- T48: ASL $12FF,X. -/
theorem test_T48 : (after (start 0x8000 [0x1E, 0xFF, 0x12] [(0x300, 0x55)] (fun c => { c with x := 0x01 }))).map
    (fun t => (t.cpu.p, t.cpu.pc, ramByte t 0x1300, t.cycles)) = some (0xA4, 0x8003, 0xAA, 7) := by decide

/-- T49: JMP ($02FF). -/
theorem test_T49 : (after (start 0x8000 [0x6C, 0xFF, 0x02] [(0x200, 0x12), (0x2FF, 0x34), (0x300, 0x56)] id)).map
    (fun t => (t.cpu.pc, t.cycles)) = some (0x1234, 5) := by decide

/-- T50: JMP ($0300). -/
theorem test_T50 : (after (start 0x8000 [0x6C, 0x00, 0x03] [(0x301, 0xC0)] id)).map
    (fun t => (t.cpu.pc, t.cycles)) = some (0xC000, 5) := by decide

/-- T51: JSR $9000. -/
theorem test_T51 : (after (start 0x8000 [0x20, 0x00, 0x90] [] (fun c => { c with sp := 0x00 }))).map
    (fun t => (t.cpu.sp, t.cpu.pc, ramByte t 0x0100, ramByte t 0x01FF, t.cycles)) = some (0xFE, 0x9000, 0x80, 0x02, 6) := by decide

/-- T52: RTS. -/
theorem test_T52 : (after (start 0x8000 [0x60] [(0x100, 0xFF), (0x1FF, 0xFF)] (fun c => { c with sp := 0xFE }))).map
    (fun t => (t.cpu.sp, t.cpu.pc, t.cycles)) = some (0x00, 0x0000, 6) := by decide

/-- T53: RTI. -/
theorem test_T53 : (after (start 0x8000 [0x40] [(0x1FB, 0xFF), (0x1FC, 0x34), (0x1FD, 0x12)] (fun c => { c with sp := 0xFA }))).map
    (fun t => (t.cpu.sp, t.cpu.p, t.cpu.pc, t.cycles)) = some (0xFD, 0xEF, 0x1234, 6) := by decide

/-- T54: BRK. -/
theorem test_T54 : (after (withVector 0x3FFF 0xA0 (start 0x8000 [0x00] [] (fun c => { c with p := 0xE5, sp := 0x01 })))).map
    (fun t => (t.cpu.sp, t.cpu.pc, ramByte t 0x0101, ramByte t 0x0100, ramByte t 0x01FF, t.cycles)) = some (0xFE, 0xA000, 0x80, 0x02, 0xF5, 7) := by decide

/-- T55: BNE $FE (taken, to itself). -/
theorem test_T55 : (after (start 0x8000 [0xD0, 0xFE] [] id)).map
    (fun t => (t.cpu.pc, t.cycles)) = some (0x8000, 3) := by decide

/-- T56: BEQ $10 (not taken). -/
theorem test_T56 : (after (start 0x8000 [0xF0, 0x10] [] id)).map
    (fun t => (t.cpu.pc, t.cycles)) = some (0x8002, 2) := by decide

/-- T57: BCC $7F (taken, crosses). -/
theorem test_T57 : (after (start 0x80F0 [0x90, 0x7F] [] id)).map
    (fun t => (t.cpu.pc, t.cycles)) = some (0x8171, 4) := by decide

/-- T58: BCS $02 (taken, next at page start). -/
theorem test_T58 : (after (start 0x80FE [0xB0, 0x02] [] (fun c => { c with p := 0x25 }))).map
    (fun t => (t.cpu.pc, t.cycles)) = some (0x8102, 3) := by decide

/-- T59: BMI $FD (taken, back across page). -/
theorem test_T59 : (after (start 0x8100 [0x30, 0xFD] [] (fun c => { c with p := 0xA4 }))).map
    (fun t => (t.cpu.pc, t.cycles)) = some (0x80FF, 4) := by decide

/-- T60: BVS $00 (taken, offset 0). -/
theorem test_T60 : (after (start 0x8000 [0x70, 0x00] [] (fun c => { c with p := 0x64 }))).map
    (fun t => (t.cpu.pc, t.cycles)) = some (0x8002, 3) := by decide

/-- T61: PHP. -/
theorem test_T61 : (after (start 0x8000 [0x08] [] id)).map
    (fun t => (t.cpu.sp, t.cpu.pc, ramByte t 0x01FD, t.cycles)) = some (0xFC, 0x8001, 0x34, 3) := by decide

/-- T62: PLP. -/
theorem test_T62 : (after (start 0x8000 [0x28] [(0x1FF, 0xFF)] (fun c => { c with sp := 0xFE }))).map
    (fun t => (t.cpu.sp, t.cpu.p, t.cpu.pc, t.cycles)) = some (0xFF, 0xEF, 0x8001, 4) := by decide

/-- T63: PLP. -/
theorem test_T63 : (after (start 0x8000 [0x28] [] (fun c => { c with sp := 0xFE, p := 0xE7 }))).map
    (fun t => (t.cpu.sp, t.cpu.p, t.cpu.pc, t.cycles)) = some (0xFF, 0x20, 0x8001, 4) := by decide

/-- T64: PHA. -/
theorem test_T64 : (after (start 0x8000 [0x48] [] (fun c => { c with a := 0x9C, sp := 0x00 }))).map
    (fun t => (t.cpu.sp, t.cpu.pc, ramByte t 0x0100, t.cycles)) = some (0xFF, 0x8001, 0x9C, 3) := by decide

/-- T65: PLA. -/
theorem test_T65 : (after (start 0x8000 [0x68] [(0x100, 0x80)] (fun c => { c with sp := 0xFF }))).map
    (fun t => (t.cpu.a, t.cpu.sp, t.cpu.p, t.cpu.pc, t.cycles)) = some (0x80, 0x00, 0xA4, 0x8001, 4) := by decide

/-- T66: SEC. -/
theorem test_T66 : (after (start 0x8000 [0x38] [] id)).map
    (fun t => (t.cpu.p, t.cpu.pc, t.cycles)) = some (0x25, 0x8001, 2) := by decide

/-- T67: CLI. -/
theorem test_T67 : (after (start 0x8000 [0x58] [] id)).map
    (fun t => (t.cpu.p, t.cpu.pc, t.cycles)) = some (0x20, 0x8001, 2) := by decide

/-- T68: SED. -/
theorem test_T68 : (after (start 0x8000 [0xF8] [] id)).map
    (fun t => (t.cpu.p, t.cpu.pc, t.cycles)) = some (0x2C, 0x8001, 2) := by decide

/-- T69: CLV. -/
theorem test_T69 : (after (start 0x8000 [0xB8] [] (fun c => { c with p := 0x64 }))).map
    (fun t => (t.cpu.p, t.cpu.pc, t.cycles)) = some (0x24, 0x8001, 2) := by decide

/-- T70: NOP. -/
theorem test_T70 : (after (start 0x8000 [0xEA] [] id)).map
    (fun t => (t.cpu.pc, t.cycles)) = some (0x8001, 2) := by decide

/-- T71: LAX ($10),Y. -/
theorem test_T71 : (after (start 0x8000 [0xB3, 0x10] [(0x010, 0xFF), (0x011, 0x02), (0x300, 0x80)] (fun c => { c with y := 0x01 }))).map
    (fun t => (t.cpu.a, t.cpu.x, t.cpu.p, t.cpu.pc, t.cycles)) = some (0x80, 0x80, 0xA4, 0x8002, 6) := by decide

/-- T72: SAX $10,Y. -/
theorem test_T72 : (after (start 0x8000 [0x97, 0x10] [] (fun c => { c with a := 0xAA, x := 0x0F, y := 0x01 }))).map
    (fun t => (t.cpu.pc, ramByte t 0x0011, t.cycles)) = some (0x8002, 0x0A, 4) := by decide

/-- T73: DCP $10. -/
theorem test_T73 : (after (start 0x8000 [0xC7, 0x10] [] (fun c => { c with a := 0xFF }))).map
    (fun t => (t.cpu.p, t.cpu.pc, ramByte t 0x0010, t.cycles)) = some (0x27, 0x8002, 0xFF, 5) := by decide

/-- T74: ISC $10. -/
theorem test_T74 : (after (start 0x8000 [0xE7, 0x10] [] (fun c => { c with a := 0x80, p := 0x25 }))).map
    (fun t => (t.cpu.a, t.cpu.p, t.cpu.pc, ramByte t 0x0010, t.cycles)) = some (0x7F, 0x65, 0x8002, 0x01, 5) := by decide

/-- T75: SLO $10. -/
theorem test_T75 : (after (start 0x8000 [0x07, 0x10] [(0x010, 0x80)] (fun c => { c with a := 0x00 }))).map
    (fun t => (t.cpu.p, t.cpu.pc, ramByte t 0x0010, t.cycles)) = some (0x27, 0x8002, 0x00, 5) := by decide

/-- T76: RLA $1200,Y. -/
theorem test_T76 : (after (start 0x8000 [0x3B, 0x00, 0x12] [(0x2FF, 0x05)] (fun c => { c with a := 0x0F, y := 0xFF, p := 0x25 }))).map
    (fun t => (t.cpu.a, t.cpu.p, t.cpu.pc, ramByte t 0x12FF, t.cycles)) = some (0x0B, 0x24, 0x8003, 0x0B, 7) := by decide

/-- T77: SRE ($10,X). -/
theorem test_T77 : (after (start 0x8000 [0x43, 0x10] [(0x013, 0x03), (0x300, 0xFF)] (fun c => { c with a := 0xFF, x := 0x02 }))).map
    (fun t => (t.cpu.a, t.cpu.p, t.cpu.pc, ramByte t 0x0300, t.cycles)) = some (0x80, 0xA5, 0x8002, 0x7F, 8) := by decide

/-- T78: RRA ($10),Y. -/
theorem test_T78 : (after (start 0x8000 [0x73, 0x10] [(0x010, 0xF8), (0x011, 0x02), (0x308, 0x02)] (fun c => { c with a := 0x7F, y := 0x10, p := 0x25 }))).map
    (fun t => (t.cpu.a, t.cpu.p, t.cpu.pc, ramByte t 0x0308, t.cycles)) = some (0x00, 0x27, 0x8002, 0x81, 8) := by decide

/-- T79: ANC #$7F. -/
theorem test_T79 : (after (start 0x8000 [0x2B, 0x7F] [] (fun c => { c with a := 0xFF, p := 0x25 }))).map
    (fun t => (t.cpu.a, t.cpu.p, t.cpu.pc, t.cycles)) = some (0x7F, 0x24, 0x8002, 2) := by decide

/-- T80: ALR #$01. -/
theorem test_T80 : (after (start 0x8000 [0x4B, 0x01] [] (fun c => { c with a := 0x01 }))).map
    (fun t => (t.cpu.a, t.cpu.p, t.cpu.pc, t.cycles)) = some (0x00, 0x27, 0x8002, 2) := by decide

/-- T81: ARR #$FF. -/
theorem test_T81 : (after (start 0x8000 [0x6B, 0xFF] [] (fun c => { c with a := 0x40, p := 0x24 }))).map
    (fun t => (t.cpu.a, t.cpu.p, t.cpu.pc, t.cycles)) = some (0x20, 0x64, 0x8002, 2) := by decide

/-- T82: ARR #$FF. -/
theorem test_T82 : (after (start 0x8000 [0x6B, 0xFF] [] (fun c => { c with a := 0xC0, p := 0x25 }))).map
    (fun t => (t.cpu.a, t.cpu.p, t.cpu.pc, t.cycles)) = some (0xE0, 0xA5, 0x8002, 2) := by decide

/-- T83: AXS #$20. -/
theorem test_T83 : (after (start 0x8000 [0xCB, 0x20] [] (fun c => { c with a := 0x0F, x := 0x1F }))).map
    (fun t => (t.cpu.x, t.cpu.p, t.cpu.pc, t.cycles)) = some (0xEF, 0xA4, 0x8002, 2) := by decide

/-- T84: LAS $12F0,Y. -/
theorem test_T84 : (after (start 0x8000 [0xBB, 0xF0, 0x12] [(0x300, 0x8F)] (fun c => { c with y := 0x10, sp := 0xF0 }))).map
    (fun t => (t.cpu.a, t.cpu.x, t.cpu.sp, t.cpu.p, t.cpu.pc, t.cycles)) = some (0x80, 0x80, 0x80, 0xA4, 0x8003, 5) := by decide

/-- T85: SBC #$40 (0xEB). -/
theorem test_T85 : (after (start 0x8000 [0xEB, 0x40] [] (fun c => { c with a := 0x40, p := 0x25 }))).map
    (fun t => (t.cpu.a, t.cpu.p, t.cpu.pc, t.cycles)) = some (0x00, 0x27, 0x8002, 2) := by decide

/-- T86: NOP $12F0,X (0x3C). -/
theorem test_T86 : (after (start 0x8000 [0x3C, 0xF0, 0x12] [] (fun c => { c with x := 0x10 }))).map
    (fun t => (t.cpu.pc, t.cycles)) = some (0x8003, 5) := by decide

/-- T89: SHA ($10),Y (0x93). -/
theorem test_T89 : (after (start 0x8000 [0x93, 0x10] [(0x010, 0x01), (0x011, 0x03)] (fun c => { c with a := 0xFF, x := 0xFF, y := 0xFF }))).map
    (fun t => (t.cpu.pc, ramByte t 0x0400, t.cycles)) = some (0x8002, 0x00, 6) := by decide

/-- T90: TAS $0300,Y (0x9B). -/
theorem test_T90 : (after (start 0x8000 [0x9B, 0x00, 0x03] [] (fun c => { c with a := 0xFF, x := 0xFF }))).map
    (fun t => (t.cpu.pc, ramByte t 0x0300, t.cycles)) = some (0x8003, 0x00, 5) := by decide

/-- T91: LXA #$55 (0xAB). -/
theorem test_T91 : (after (start 0x8000 [0xAB, 0x55] [] (fun c => { c with a := 0xFF }))).map
    (fun t => (t.cpu.pc, t.cycles)) = some (0x8002, 2) := by decide

/-- T92: JAM (0x02). -/
theorem test_T92 : (after (start 0x8000 [0x02] [] id)).map
    (fun t => (t.cpu.pc, t.cycles)) = some (0x8001, 2) := by decide

/-- T93: (NMI edge) before LDA #$01. -/
theorem test_T93 : (after (withVblank (withVector 0x3FFB 0x90 (start 0x8000 [0xA9, 0x01] [] (fun c => { c with p := 0xE5 }))))).map
    (fun t => (t.cpu.sp, t.cpu.pc, ramByte t 0x01FD, ramByte t 0x01FB, t.cycles)) = some (0xFA, 0x9000, 0x80, 0xE5, 7) := by decide

/-- T94: (IRQ high, I=1) LDA #$01. -/
theorem test_T94 : (after (withIrq (withVector 0x3FFF 0xA0 (start 0x8000 [0xA9, 0x01] [] id)))).map
    (fun t => (t.cpu.a, t.cpu.pc, t.cycles)) = some (0x01, 0x8002, 2) := by decide

/-- T95: (IRQ high, I=0) before LDA #$01. -/
theorem test_T95 : (after (withIrq (withVector 0x3FFF 0xA0 (start 0x8000 [0xA9, 0x01] [] (fun c => { c with p := 0x20 }))))).map
    (fun t => (t.cpu.sp, t.cpu.p, t.cpu.pc, ramByte t 0x01FD, ramByte t 0x01FB, t.cycles)) = some (0xFA, 0x24, 0xA000, 0x80, 0x20, 7) := by decide

/-! ## The bus, the controller, the picture unit, reset -/

/-- V1: a byte written at 0x0000 is read at its three mirrors (R46). -/
theorem test_V1 : [0x0800, 0x1000, 0x1800].map (fun a => (busRead a (busWrite 0x0000 0xAB State.reset)).1)
    = [0xAB, 0xAB, 0xAB] := by decide

/-- V2: the address pair of register 6, bits 7 and 6 of the first write dropped (R331). -/
theorem test_V2 : (busWrite 0x2006 0x08 (busWrite 0x2006 0xE1 State.reset)).ppu.v = 0x2108 := by decide

/-- V2: a byte written through register 7 is read back through it, and v moves on (R332, R333). -/
theorem test_V2_data :
    let s := busWrite 0x2007 0x5A (busWrite 0x2006 0x08 (busWrite 0x2006 0x21 State.reset))
    let r := busRead 0x2007 (busWrite 0x2006 0x08 (busWrite 0x2006 0x21 s))
    (s.ppu.v, readCell s.ppu.nt 0x108, r.1, r.2.ppu.v) = (0x2109, 0x5A, 0x5A, 0x2109) := by decide

/-- V4: 513 cycles on an even cycle, 514 on an odd one (R61). -/
theorem test_V4 : (dmaCost 12, dmaCost 9) = (513, 514) := by decide

set_option maxRecDepth 20000 in
/-- V4 (c): a transfer wraps at the end of the sprite memory (R60). -/
theorem test_V4_wrap :
    let s := busWrite 0x4014 0x03 { State.reset with
      ram := [(0x3F0, 0xF0), (0x3FF, 0xFF)], ppu := { State.reset.ppu with oamAddr := 0x10 } }
    (readCell s.ppu.oam 0x10, readCell s.ppu.oam 0x0F, readCell s.ppu.oam 0x00, s.ppu.oamAddr)
      = (0x00, 0xFF, 0xF0, 0x10) := by decide

/-- Palette aliases: 0x3F10 is 0x3F00, 0x3F14 is 0x3F04, 0x3F11 is its own (R318). -/
theorem test_palette : [0x3F10, 0x3F14, 0x3F18, 0x3F1C, 0x3F11, 0x3F20].map palIndex
    = [0x00, 0x04, 0x08, 0x0C, 0x11, 0x00] := by decide

/-- The three nametable arrangements (R317). -/
theorem test_mirroring :
    (ntIndex .horizontal 0x2400, ntIndex .horizontal 0x2800, ntIndex .vertical 0x2400, ntIndex .vertical 0x2800,
      ntIndex .fourScreen 0x2C00) = (0x000, 0x400, 0x400, 0x000, 0xC00) := by decide

/-- Row 29 wraps into the other nametable, row 31 does not (R350). -/
theorem test_incY : (incY 0x73A0, incY 0x73E0, incY 0x0000) = (0x0800, 0x0000, 0x1000) := by decide

/-- The parity dot: scanline 261 dot 338 of an odd rendering frame is followed by dot 340 (R343). -/
theorem test_oddFrame :
    (advance true { State.reset.ppu with scanline := 261, dot := 338, oddFrame := true }).dot = 340
      ∧ (advance true { State.reset.ppu with scanline := 261, dot := 338, oddFrame := false }).dot = 339 := by
  decide

set_option maxRecDepth 20000 in
/-- A reset request: PC from the vector, seven cycles (R380). -/
theorem test_resetRequest :
    (after (withVector 0x3FFD 0x90 { State.reset with
      cyc := 99, inputs := [{ resetRequest := true, irqLine := false }] })).map
      (fun t => (t.cpu.pc, t.cpu.sp, t.cyc, t.ppu.dot)) = some (0x9000, 0xFD, 7, 21) := by decide

/-- An image without the magic signature builds no machine (R59). -/
theorem test_loader_magic : loadCartridge [0x4E, 0x45, 0x53, 0x00, 1, 1, 0, 0, 0, 0, 0, 0, 0, 0, 0, 0]
    = .error .romFormat := by decide

/-- An image for another memory-mapping scheme builds no machine (R54, R59). -/
theorem test_loader_mapper : loadCartridge [0x4E, 0x45, 0x53, 0x1A, 1, 1, 0x10, 0, 0, 0, 0, 0, 0, 0, 0, 0]
    = .error .unsupportedMapper := by decide

/-- Power-on clears a writable pattern memory and keeps a read-only one; a reset keeps both (R380, R381). -/
theorem test_powerOnPatternMemory :
    let ram : Cartridge := { blankCartridge with chr := [(5, 0x12)] }
    let rom : Cartridge := { ram with chrIsRam := false }
    (powerOn Config.standard ram [] []).cart.chr = [] ∧ (powerOn Config.standard rom [] []).cart.chr = [(5, 0x12)]
      ∧ (performReset { State.reset with cart := ram }).cart.chr = [(5, 0x12)] := by
  simp only [(powerOn_stores _ _ _ _).2, performReset_eq]
  decide

/-- The listing of P1's branch and of T3's load (R92). -/
theorem test_listing : listing 0x800A 0xD0 0xF9 0x00 = "BNE $8005" ∧ listing 0x8000 0xBD 0xF0 0x12 = "LDA $12F0,X" := by
  decide

/-- An assembler's branch offset, and a target out of reach (R92). -/
theorem test_branchOffset : branchOffset 0x800A 0x8005 = some 0xF9 ∧ branchOffset 0x8000 0x9000 = none := by decide

/-! ## The host's two definitions -/

theorem test_tableWord : decodeTableWord 8 0xA9 = some (.ldaImm 0) ∧ decodeTableWord 8 0x6C = some (.jmpInd 0) := by
  decide

theorem test_withFetchWord :
    (after (State.reset.withFetchWord 8 0xE8)).map (fun t => (t.cpu.x, t.cpu.pc, t.cycles)) = some (1, 1, 2)
      ∧ (after (State.reset.withFetchWord 8 0x20)).map (fun t => (t.cpu.sp, t.cpu.pc, t.cycles))
        = some (0xFB, 0, 6) := by decide

/-! ## Witnesses of the obligations' hypotheses -/

/-- LDA #0x80 at 0x8000, from reset. -/
def sample : State := start 0x8000 [0xA9, 0x80] [] id

/-- The opcode byte of LDA absolute in the last three RAM bytes. -/
def sampleRam : State :=
  { State.reset with ram := [(0x7FD, 0xAD), (0x7FE, 0x34), (0x7FF, 0x12)], cpu := { State.reset.cpu with pc := 0x1FFD } }

theorem sample_noReset : noReset sample := nofun

theorem witness_DecodeOfEncode : (Instr.jmpInd 0xFFFF).wellFormed = true := by decide

theorem witness_EveryOpcodeByteDecodes :
    decode [0x02, 0x00] = .ok (.jam02, [0x00]) ∧ decode [0x6C, 0xFF] = .error (.truncated 0x6C 3)
      ∧ decode [] = .error .noBytes := by decide

theorem witness_StepRunsTheDecodedInstruction :
    (quiet sample ∧ ∀ k, k < (encode (.ldaImm 0x80)).length →
      holdsCode (sample.cpu.pc + BitVec.ofNat 16 k) = true
        ∧ (busRead (sample.cpu.pc + BitVec.ofNat 16 k) sample).1 = (encode (.ldaImm 0x80)).getD k 0)
    ∧ (quiet sampleRam ∧ ∀ k, k < (encode (.ldaAbs 0x1234)).length →
      holdsCode (sampleRam.cpu.pc + BitVec.ofNat 16 k) = true
        ∧ (busRead (sampleRam.cpu.pc + BitVec.ofNat 16 k) sampleRam).1 = (encode (.ldaAbs 0x1234)).getD k 0) :=
  ⟨⟨⟨nofun, by decide, by decide⟩, by decide⟩, ⟨⟨nofun, by decide, by decide⟩, by decide⟩⟩

theorem witness_FetchGoesThroughTheBus : quiet { sample with cpu := { sample.cpu with pc := 0x2002 } } :=
  ⟨nofun, by decide, by decide⟩

theorem witness_ResetRequestGivesTheResetTable :
    { sample with inputs := [{ resetRequest := true, irqLine := true }] }.inputs
        = { resetRequest := true, irqLine := true } :: []
      ∧ sample.cfg.resetCycles = 7 := by decide

theorem witness_NmiEdgeIsServiced :
    Memory.wf (withVblank sample).ram = true ∧ noReset (withVblank sample) ∧ nmiEdge (withVblank sample) = true :=
  ⟨by decide, nofun, by decide⟩

theorem witness_IrqIsServicedWhenNotMasked :
    let s := withIrq { sample with cpu := { sample.cpu with p := 0x20 } }
    Memory.wf s.ram = true ∧ noReset s ∧ nmiEdge s = false ∧ lineNow s = true ∧ flag bitI s.cpu.p = false :=
  ⟨by decide, nofun, by decide, by decide, by decide⟩

theorem witness_EdgeDetectorHoldsTheLastLevel : noReset sample ∧ (after sample).isSome = true := ⟨nofun, by decide⟩

theorem witness_CycGrowsByTheStepsCycles : noReset (withVblank sample) ∧ (after (withVblank sample)).isSome = true :=
  ⟨nofun, by decide⟩

theorem witness_StepKeepsTheInvariant : State.inv sample = true ∧ (after sample).isSome = true := by decide

theorem witness_StepKeepsTheFixedPart : (after (withIrq sampleRam)).isSome = true := by decide

/-- A good state of each kind: code in program memory, code in RAM, a read-only pattern memory. It is the
hypothesis of `EntryThenRtiRestoresTheCpu`, `DmaCopiesAPage` and `DataWriteChangesOneCell`. -/
theorem witness_EveryGoodState : State.inv sample = true ∧ State.inv sampleRam = true
    ∧ State.inv { sample with cart := { sample.cart with chrIsRam := false } } = true := by decide

theorem witness_EntryThenRtiRestoresTheCpu : State.inv (withVblank sampleRam) = true := by decide

theorem witness_BrkTakesTheEntrySequence : Memory.wf sampleRam.ram = true := by decide

theorem witness_AddressingModesResolve :
    (∀ p, Mode.izy 0xFF ≠ .ind p)
      ∧ Mode.izx 0xFF ∈ [Mode.zp 0xFF, .zpx 0xFF, .zpy 0xFF, .abs 0xFFFF, .ind 0xFFFF, .izx 0xFF] :=
  ⟨nofun, by decide⟩

theorem witness_LoadsFillTheirRegister :
    ⟨.ldaAbx 0xFFFF, 0xBD, 4, true⟩ ∈ memRows .lda (.abx 0xFFFF) ∧ ⟨.ldaImm 0xFF, 0xA9, 2, false⟩ ∈ immRows .lda 0xFF
      ∧ ⟨.ldxZpy 0xFF, 0xB6, 4, false⟩ ∈ memRows .ldx (.zpy 0xFF) ∧ ⟨.ldxImm 0, 0xA2, 2, false⟩ ∈ immRows .ldx 0
      ∧ ⟨.ldyZpx 0xFF, 0xB4, 4, false⟩ ∈ memRows .ldy (.zpx 0xFF) ∧ ⟨.ldyImm 0, 0xA0, 2, false⟩ ∈ immRows .ldy 0
      ∧ ⟨.laxIzy 0xFF, 0xB3, 5, true⟩ ∈ memRows .lax (.izy 0xFF)
      ∧ ⟨.lasAby 0x12F0, 0xBB, 4, true⟩ ∈ memRows .las (.aby 0x12F0) := by decide

theorem witness_StoresWriteOneByte :
    (⟨.staAbs 0x4014, 0x8D, 4, false⟩ ∈ memRows .sta (.abs 0x4014)
      ∧ ⟨.stxZpy 0xFF, 0x96, 4, false⟩ ∈ memRows .stx (.zpy 0xFF)
      ∧ ⟨.styZpx 0xFF, 0x94, 4, false⟩ ∈ memRows .sty (.zpx 0xFF)
      ∧ ⟨.saxIzx 0xFF, 0x83, 6, false⟩ ∈ memRows .sax (.izx 0xFF))
    ∧ Memory.wf sample.ram = true
    ∧ [0x1FFF, 0x2000, 0x2003, 0x2006, 0x3FFD, 0x4013, 0x4015, 0xFFFF].map writesPicture
      = [false, false, false, false, false, false, false, false]
    ∧ [0x2004, 0x2007, 0x3FFC, 0x3FFF, 0x4014].map writesPicture = [true, true, true, true, true] := by decide

theorem witness_AdcAddsWithCarry :
    ⟨.adcIzy 0xFF, 0x71, 5, true⟩ ∈ memRows .adc (.izy 0xFF) ∧ ⟨.adcImm 0x50, 0x69, 2, false⟩ ∈ immRows .adc 0x50 := by
  decide

theorem witness_SbcSubtractsWithBorrow :
    ⟨.sbcAby 0xFFFF, 0xF9, 4, true⟩ ∈ memRows .sbc (.aby 0xFFFF) ∧ ⟨.sbcImm 0xF0, 0xE9, 2, false⟩ ∈ immRows .sbc 0xF0
      ∧ ⟨.sbcImmEB 0x40, 0xEB, 2, false⟩ ∈ immRows .sbc 0x40 := by decide

theorem witness_LogicCombinesWithA :
    ⟨.andZp 0xFF, 0x25, 3, false⟩ ∈ memRows .and (.zp 0xFF) ∧ ⟨.andImm 0, 0x29, 2, false⟩ ∈ immRows .and 0
      ∧ ⟨.oraIzx 0xFF, 0x01, 6, false⟩ ∈ memRows .ora (.izx 0xFF) ∧ ⟨.oraImm 0, 0x09, 2, false⟩ ∈ immRows .ora 0
      ∧ ⟨.eorAbx 0xFFFF, 0x5D, 4, true⟩ ∈ memRows .eor (.abx 0xFFFF)
      ∧ ⟨.eorImm 0, 0x49, 2, false⟩ ∈ immRows .eor 0 := by decide

theorem witness_ComparesAndBitSetFlagsOnly :
    ⟨.cmpIzy 0xFF, 0xD1, 5, true⟩ ∈ memRows .cmp (.izy 0xFF) ∧ ⟨.cmpImm 0x80, 0xC9, 2, false⟩ ∈ immRows .cmp 0x80
      ∧ ⟨.cpxAbs 0, 0xEC, 4, false⟩ ∈ memRows .cpx (.abs 0) ∧ ⟨.cpxImm 0, 0xE0, 2, false⟩ ∈ immRows .cpx 0
      ∧ ⟨.cpyZp 0, 0xC4, 3, false⟩ ∈ memRows .cpy (.zp 0) ∧ ⟨.cpyImm 0, 0xC0, 2, false⟩ ∈ immRows .cpy 0
      ∧ ⟨.bitAbs 0x2002, 0x2C, 4, false⟩ ∈ memRows .bit (.abs 0x2002) := by decide

theorem witness_IncDecModifyMemory :
    ⟨.incAbs 0x4014, 0xEE, 6, false⟩ ∈ memRows .inc (.abs 0x4014)
      ∧ ⟨.decAbx 0x1234, 0xDE, 7, false⟩ ∈ memRows .dec (.abx 0x1234) ∧ Memory.wf sample.ram = true := by decide

theorem witness_ShiftsOfMemory :
    ⟨.aslAbx 0x12FF, 0x1E, 7, false⟩ ∈ memRows .asl (.abx 0x12FF) ∧ ⟨.lsrZp 0, 0x46, 5, false⟩ ∈ memRows .lsr (.zp 0)
      ∧ ⟨.rolAbs 0xFFFF, 0x2E, 6, false⟩ ∈ memRows .rol (.abs 0xFFFF)
      ∧ ⟨.rorZpx 0x10, 0x76, 6, false⟩ ∈ memRows .ror (.zpx 0x10) ∧ Memory.wf sample.ram = true := by decide

theorem witness_SubroutineCallAndReturn : Memory.wf sample.ram = true := by decide

theorem witness_JsrThenRtsReturns : Memory.wf sampleRam.ram = true := by decide

theorem witness_PushesStoreOneByte : Memory.wf sampleRam.ram = true := by decide

theorem witness_BranchesTestOneFlag :
    (Instr.bvs 0x80, (0x70 : Byte), 6, true) ∈ ([(.bcc 0x80, 0x90, 0, false), (.bcs 0x80, 0xB0, 0, true),
      (.beq 0x80, 0xF0, 1, true), (.bne 0x80, 0xD0, 1, false), (.bmi 0x80, 0x30, 7, true),
      (.bpl 0x80, 0x10, 7, false), (.bvc 0x80, 0x50, 6, false), (.bvs 0x80, 0x70, 6, true)] :
      List (Instr × Byte × Nat × Bool)) := by decide

theorem witness_FlagInstructionsWriteOneFlag :
    (Instr.sed, (0xF8 : Byte), 3, true) ∈ ([(.clc, 0x18, 0, false), (.sec, 0x38, 0, true), (.cli, 0x58, 2, false),
      (.sei, 0x78, 2, true), (.clv, 0xB8, 6, false), (.cld, 0xD8, 3, false), (.sed, 0xF8, 3, true)] :
      List (Instr × Byte × Nat × Bool)) := by decide

theorem witness_NoOperationsChangeNothing :
    ⟨.nopImmE2 0xFF, 0xE2, 2, false⟩ ∈ immRows .nop 0xFF ∧ ⟨.nopAbxFC 0x12F0, 0xFC, 4, true⟩ ∈ memRows .nop (.abx 0x12F0)
      ∧ ⟨.nopZp64 0, 0x64, 3, false⟩ ∈ memRows .nop (.zp 0) := by decide

theorem witness_ShiftAndAccumulate :
    ⟨.sloZp 0x10, 0x07, 5, false⟩ ∈ memRows .slo (.zp 0x10) ∧ ⟨.rlaAby 0x1200, 0x3B, 7, false⟩ ∈ memRows .rla (.aby 0x1200)
      ∧ ⟨.sreIzx 0x10, 0x43, 8, false⟩ ∈ memRows .sre (.izx 0x10)
      ∧ ⟨.rraIzy 0x10, 0x73, 8, false⟩ ∈ memRows .rra (.izy 0x10) ∧ Memory.wf sample.ram = true := by decide

theorem witness_CountAndCombine :
    ⟨.dcpIzy 0xFF, 0xD3, 8, false⟩ ∈ memRows .dcp (.izy 0xFF) ∧ ⟨.iscAbs 0x4014, 0xEF, 6, false⟩ ∈ memRows .isc (.abs 0x4014)
      ∧ Memory.wf sample.ram = true := by decide

theorem witness_ImmediateCombinations :
    (Instr.ancImm2B 0x7F, (0x2B : Byte)) ∈ ([(.ancImm0B 0x7F, 0x0B), (.ancImm2B 0x7F, 0x2B)] : List (Instr × Byte)) := by
  decide

/-- Each range of the read map at its ends. -/
theorem witness_BusReadMap :
    (0x1FFF#16).toNat < 0x2000
      ∧ (0x2000 ≤ (0x2000#16).toNat ∧ (0x3FFE#16).toNat < 0x4000 ∧ (0x3FFE#16).toNat % 8 ∈ [0, 1, 3, 5, 6])
      ∧ (0x3FFA#16).toNat % 8 = 2 ∧ (0x3FFC#16).toNat % 8 = 4 ∧ (0x3FFF#16).toNat % 8 = 7
      ∧ (0x4000 ≤ (0x4000#16).toNat ∧ (0x401F#16).toNat < 0x4020)
      ∧ ({ sample with extIn := [0x41] }).extIn.head? = some 0x41
      ∧ (0x4020 ≤ (0x4020#16).toNat ∧ (0x7FFF#16).toNat < 0x8000) ∧ 0x8000 ≤ (0x8000#16).toNat := by decide

theorem witness_BusWriteMap :
    Memory.wf sample.ram = true ∧ (0x1FFF#16).toNat < 0x2000
      ∧ (0x2000 ≤ (0x2002#16).toNat ∧ (0x3FFA#16).toNat < 0x4000 ∧ (0x3FFA#16).toNat % 8 = 2)
      ∧ (0x4000 ≤ (0x4013#16).toNat ∧ (0x4015#16).toNat < 0x4020 ∧ (0x4015#16).toNat ≠ 0x4014)
      ∧ 0x4020 ≤ (0x4020#16).toNat := by decide

theorem witness_DmaCopiesAPage : State.inv sample = true ∧ (0x1F#8).toNat < 0x20 := by decide

theorem witness_ControlMaskAndOamWrites : sized 256 sample.ppu.oam = true := by decide

theorem witness_ScrollWritesFillT :
    sample.ppu.w = false ∧ ({ sample with ppu := { sample.ppu with w := true } }).ppu.w = true := by decide

theorem witness_AddressPairSetsV :
    sample.ppu.w = false ∧ ({ sample with ppu := { sample.ppu with w := true } }).ppu.w = true := by decide

/-- The two read modes, on either side of the palette's first address. -/
theorem witness_DataReadAdvancesV :
    sample.cfg.dataReadBuffered = false ∧ ({ Config.standard with dataReadBuffered := true }).dataReadBuffered = true
      ∧ (0x3EFF#15).toNat % 0x4000 < 0x3F00 ∧ 0x3F00 ≤ (0x7F00#15).toNat % 0x4000 := by decide

/-- A cell and its alias, another cell, and a read-only pattern memory. -/
theorem witness_DataWriteChangesOneCell :
    State.inv sample = true
      ∧ sameCell .horizontal 0x2000 0x2400 ∧ ¬ sameCell .horizontal 0x2000 0x2800
      ∧ sameCell .vertical 0x2000 0x2800 ∧ ¬ sameCell .fourScreen 0x2000 0x2800
      ∧ sameCell .horizontal 0x3F10 0x3F00 ∧ ¬ sameCell .horizontal 0x3F11 0x3F01
      ∧ sameCell .horizontal 0x1FFF 0x1FFF ∧ ¬ sameCell .horizontal 0x1FFF 0x2000
      ∧ ({ sample with cart := { sample.cart with chrIsRam := false } }).cart.chrIsRam = false := by
  unfold sameCell
  refine ⟨?_, ?_, ?_, ?_, ?_, ?_, ?_, ?_, ?_, ?_⟩ <;> decide

theorem witness_VblankFlagEdges :
    let p := { sample.ppu with scanline := 241, dot := 1 }
    let q := { sample.ppu with scanline := 261, dot := 1 }
    (p.scanline = 241 ∧ p.dot = 1) ∧ (q.scanline = 261 ∧ q.dot = 1)
      ∧ ¬ (sample.ppu.scanline = 241 ∧ sample.ppu.dot = 1) := by decide

theorem witness_FrameIs89342Dots :
    let p := { sample.ppu with scanline := 0, dot := 0 }
    let q := { sample.ppu with scanline := 0, dot := 0, oddFrame := true, mask := 0x08 }
    (p.scanline = 0 ∧ p.dot = 0 ∧ 89342 = (if p.oddFrame && (p.mask.getLsbD 3 || p.mask.getLsbD 4) then 89341 else 89342))
      ∧ (q.scanline = 0 ∧ q.dot = 0
        ∧ 89341 = (if q.oddFrame && (q.mask.getLsbD 3 || q.mask.getLsbD 4) then 89341 else 89342)) := by decide

theorem witness_IdleDotsLeaveTheMemories :
    (240 ≤ 240 ∧ 240 ≤ 260 ∧ 240 ≤ 260 ∧ 260 ≤ 260)
      ∧ (sample.ppu.mask.getLsbD 3 = false ∧ sample.ppu.mask.getLsbD 4 = false)
      ∧ ({ sample.ppu with scanline := 261, dot := 257 }).scanline = 261
      ∧ ({ sample.ppu with scanline := 261, dot := 257 }).dot = 257
      ∧ ({ sample.ppu with scanline := 261, dot := 257 }).mask.getLsbD 4 = false := by decide

/-- v at each case of the horizontal and the vertical step, and a rendering picture unit at both ends of each
range of dots. -/
theorem witness_ScrollSteps :
    let p := { sample.ppu with mask := 0x08, scanline := 261 }
    ((0x001E#15).toNat % 32 < 31 ∧ (0x001F#15).toNat % 32 = 31 ∧ (0x041F#15).toNat % 32 = 31
      ∧ (0x6FFF#15).toNat / 0x1000 < 7
      ∧ ((0x73A0#15).toNat / 0x1000 = 7 ∧ (0x73A0#15).toNat / 32 % 32 = 29)
      ∧ ((0x73E0#15).toNat / 0x1000 = 7 ∧ (0x73E0#15).toNat / 32 % 32 = 31)
      ∧ ((0x73C0#15).toNat / 0x1000 = 7 ∧ (0x73C0#15).toNat / 32 % 32 ≠ 29 ∧ (0x73C0#15).toNat / 32 % 32 ≠ 31))
    ∧ (p.mask.getLsbD 3 || p.mask.getLsbD 4) = true ∧ (p.scanline ≤ 239 ∨ p.scanline = 261)
    ∧ (∀ d ∈ [8, 248, 328, 336], ((1 ≤ d ∧ d < 256) ∨ (321 ≤ d ∧ d ≤ 336)) ∧ d % 8 = 0)
    ∧ (∀ d ∈ [280, 304], 280 ≤ d ∧ d ≤ 304)
    ∧ ∀ d ∈ [0, 1, 255, 258, 279, 305, 320, 321, 335, 337, 340], d ≠ 256 ∧ d ≠ 257 ∧ ¬ (280 ≤ d ∧ d ≤ 304)
        ∧ ¬ (((1 ≤ d ∧ d < 256) ∨ (321 ≤ d ∧ d ≤ 336)) ∧ d % 8 = 0) := by
  decide

/-- Both sprite heights, and a rendering picture unit at the first and last dot of each fetch and outside. -/
theorem witness_FetchAddressesAndShifters :
    let p := { sample.ppu with mask := 0x10, scanline := 239 }
    (sample.ppu.ctrl.getLsbD 5 = false ∧ 7 < 8)
      ∧ (({ sample.ppu with ctrl := 0x20 }).ctrl.getLsbD 5 = true ∧ 15 < 16)
      ∧ (p.mask.getLsbD 3 || p.mask.getLsbD 4) = true ∧ (p.scanline ≤ 239 ∨ p.scanline = 261)
      ∧ (fetches 1 ∧ 1 % 8 = 1) ∧ (fetches 249 ∧ 249 % 8 = 1) ∧ (fetches 323 ∧ 323 % 8 = 3) ∧ (fetches 333 ∧ 333 % 8 = 5)
      ∧ (fetches 335 ∧ 335 % 8 = 7) ∧ ¬ (fetches 257 ∧ 257 % 8 = 1) ∧ ¬ (fetches 259 ∧ 259 % 8 = 3)
      ∧ ¬ (fetches 317 ∧ 317 % 8 = 5) ∧ ¬ (fetches 0 ∧ 0 % 8 = 7) ∧ ¬ (fetches 337 ∧ 337 % 8 = 1) := by
  unfold fetches
  decide

/-- The shifters at the ends of the ranges of dots, by hand: unchanged, shifted, shifted and reloaded. -/
theorem test_shiftedAt :
    [0, 1, 2, 9, 256, 257, 258, 321, 322, 329, 337, 338].map (fun d => shiftedAt d 0x8181 0xFF)
      = [0x8181, 0x8181, 0x0302, 0x03FF, 0x0302, 0x03FF, 0x8181, 0x8181, 0x0302, 0x03FF, 0x03FF, 0x8181] := by decide

/-- Dot 257 of the pre-render line empties the selected sprites, with rendering enabled or not, so scanline 0 shows
none (R361, D25); any other dot, and dot 257 of an idle line, leaves them (R344, R361). -/
theorem test_preRenderEmptiesSprites :
    let r : LineSprite := { index := 5, x := 40, attr := 0x01, lo := 0x81, hi := 0 }
    let p := { sample.ppu with scanline := 261, dot := 257, lineSprites := [r] }
    (ppuTick sample.cart p).lineSprites = []
      ∧ (ppuTick sample.cart { p with mask := 0x10 }).lineSprites = []
      ∧ (ppuTick sample.cart { p with dot := 256 }).lineSprites = [r]
      ∧ (ppuTick sample.cart { p with scanline := 240 }).lineSprites = [r] := by decide

/-- Dot 257 of a visible line with rendering enabled, with sprites in range; the pre-render line; rendering
disabled. -/
theorem witness_SpriteEvaluationSelectsEight :
    let p := { sample.ppu with mask := 0x10, scanline := 7, dot := 257 }
    (p.scanline ≤ 239 ∨ p.scanline = 261) ∧ p.dot = 257 ∧ p.scanline ≤ 239
      ∧ (p.mask.getLsbD 3 || p.mask.getLsbD 4) = true
      ∧ (ppuTick sample.cart p).lineSprites.length = 8 ∧ (ppuTick sample.cart p).ovf = true
      ∧ ({ p with scanline := 261 }).scanline = 261 ∧ (({ p with scanline := 261 }).mask.getLsbD 4 = true)
      ∧ (sample.ppu.mask.getLsbD 3 || sample.ppu.mask.getLsbD 4) = false
      ∧ ({ p with dot := 256 }).dot ≠ 257 := by decide

/-- A clipped and an open column, a colour bit, and the first and last dot of the last visible line. -/
theorem witness_PixelPriority :
    let p := { sample.ppu with mask := 0x08, dot := 1, scanline := 239 }
    (7 < 8 ∧ p.mask.getLsbD 1 = false) ∧ (p.mask.getLsbD 3 = true ∧ 8 ≤ 8) ∧ 5 < 6
      ∧ 1 ≤ p.dot ∧ sized 61440 p.fb = true
      ∧ (p.scanline ≤ 239 ∧ 1 ≤ p.dot ∧ p.dot ≤ 256) ∧ (1 ≤ 256 ∧ 256 ≤ 256)
      ∧ ¬ (({ p with dot := 257 }).scanline ≤ 239 ∧ 1 ≤ 257 ∧ 257 ≤ 256) := by decide

/-- Two sprites at column 8, the first transparent there. -/
theorem witness_FirstOpaqueSpriteWins :
    let r : LineSprite := { index := 3, x := 0, attr := 0, lo := 0xFF, hi := 0 }
    let s : LineSprite := { index := 0, x := 8, attr := 0x23, lo := 0x80, hi := 0x80 }
    let p := { sample.ppu with mask := 0x10, lineSprites := [r, s] }
    (7 < s.x.toNat ∨ s.x.toNat + 7 < 7) ∧ (15 < s.x.toNat ∨ s.x.toNat + 7 < 16) ∧ (7 ≤ 7 ∧ 15 = s.x.toNat + 7)
      ∧ sample.ppu.mask.getLsbD 4 = false ∧ (7 < 8 ∧ p.mask.getLsbD 2 = false)
      ∧ p.mask.getLsbD 4 = true ∧ 8 ≤ 8
      ∧ (∀ q ∈ sample.ppu.lineSprites, lineSpritePix q 8 = 0)
      ∧ p.lineSprites = [r] ++ s :: [] ∧ (∀ q ∈ [r], lineSpritePix q 8 = 0) ∧ lineSpritePix s 8 ≠ 0 := by decide

end Sys2Proof.Tests
end

section
/-! What a run cannot change (R6, R7, R30, R58): the parts of a driver step, one lemma each, and the step as
their composition. -/

namespace Sys2Proof.Claims

open Sys2Proof.Machine

namespace FixedPart

variable {s t u : State}

theorem of_cart_eq (hcart : t.cart = s.cart) (hcfg : t.cfg = s.cfg) : FixedPart s t := by
  unfold FixedPart
  rw [hcart, hcfg]
  exact ⟨rfl, rfl, rfl, rfl, rfl, rfl, fun _ => rfl⟩

theorem trans (hst : FixedPart s t) (htu : FixedPart t u) : FixedPart s u := by
  obtain ⟨prg, banks, isRam, mirroring, mapper, cfg, chr⟩ := hst
  obtain ⟨prg', banks', isRam', mirroring', mapper', cfg', chr'⟩ := htu
  exact ⟨prg'.trans prg, banks'.trans banks, isRam'.trans isRam, mirroring'.trans mirroring,
    mapper'.trans mapper, cfg'.trans cfg, fun rom => (chr' (isRam.trans rom)).trans (chr rom)⟩

/-- Instruction fetch, every instruction and interrupt entry are moves. -/
theorem of_moves (h : Moves s t) : FixedPart s t := by
  obtain ⟨-, cfg, -, -, -, prg, banks, isRam, mirroring, mapper, chr⟩ := h.fixed
  exact ⟨prg, banks, isRam, mirroring, mapper, cfg, chr⟩

/-- Sampling the inputs and polling the interrupts touch neither the cartridge nor the parameters. -/
theorem polled (s : State) : FixedPart s (polled s) := by
  rw [polled_frame]
  exact of_cart_eq rfl rfl

/-- The clock reads the cartridge and never writes it (R310, R390). -/
theorem clock (s : State) : FixedPart s (clock s) := of_cart_eq rfl rfl

/-- A reset keeps the cartridge and the parameters (R380). -/
theorem performReset (s : State) : FixedPart s (performReset s) := by
  rw [performReset_eq]
  exact of_cart_eq rfl rfl

end FixedPart

/-- Settles O59: a step is a reset, or the boundary, moves and the clock, and each keeps the fixed part. -/
theorem stepKeepsTheFixedPart : Obligations.StepKeepsTheFixedPart := by
  intro s t hstep
  obtain ⟨b, rest, -, -, hreset⟩ | ⟨-, u, hmoves, hclock, -⟩ := step_cases s
  · cases hreset.symm.trans hstep
    have consumed : FixedPart s { beginStep s with inputs := rest, irqLine := b.irqLine } := .of_cart_eq rfl rfl
    exact consumed.trans (.performReset _)
  · cases hclock.symm.trans hstep
    exact ((FixedPart.polled s).trans (.of_moves hmoves)).trans (.clock u)

end Sys2Proof.Claims
end

section
/-! Instruction fetch (R84, R102, R124): the boundary of a step that takes no reset and no interrupt, and the
fetch there as the bus reads of the decoded bytes. -/

namespace Sys2Proof.Claims

open Sys2Proof.Machine

/-! ## The boundary -/

/-- The inputs a boundary samples, in closed form. -/
theorem sampleInputs_eq (s : State) :
    sampleInputs s = ({ resetRequest := s.inputs.head?.any (·.resetRequest), irqLine := lineNow s },
      { s with inputs := s.inputs.tail, irqLine := lineNow s }) := by
  rcases s with ⟨_, _, _, _, _, _, _, _, _ | ⟨b, rest⟩, _, _, _⟩ <;> rfl

/-- The state the interrupt poll leaves is the claims' own boundary state. -/
theorem polled_eq_atBoundary (s : State) : polled s = atBoundary s := by
  unfold polled
  rw [sampleInputs_eq]
  rfl

theorem sampleInputs_resetRequest_of_noReset {s : State} (h : noReset s) :
    (sampleInputs (beginStep s)).1.resetRequest = false := by
  rw [sampleInputs_eq]
  change s.inputs.head?.any (·.resetRequest) = false
  cases hd : s.inputs.head? with
  | none => rfl
  | some b => exact h b hd

/-- The interrupt the boundary finds due: the NMI edge first, then an unmasked IRQ line (R285 to R287). -/
theorem pollInterrupts_sampled_fst (s : State) :
    (pollInterrupts (sampleInputs (beginStep s)).2).1
      = if nmiEdge s then some .nmi
        else if !flag bitI s.cpu.p && lineNow s then some .irq
        else none := by
  rw [sampleInputs_eq]
  rfl

/-- A quiet boundary fetches from its own state (R100, R390). -/
theorem boundary_of_quiet {s : State} (h : quiet s) :
    boundary s = .execute (fetchInstr (atBoundary s)).1 (fetchInstr (atBoundary s)).2 := by
  obtain ⟨noRst, noNmi, noIrq⟩ := h
  have none_due : (pollInterrupts (sampleInputs (beginStep s)).2).1 = none := by
    rw [pollInterrupts_sampled_fst, noNmi]
    simpa [and_comm] using noIrq
  rw [← polled_eq_atBoundary]
  simp [boundary, sampleInputs_resetRequest_of_noReset noRst, none_due, polled]

/-- A quiet step executes the fetched instruction and runs the clock. -/
theorem step_of_quiet {s u : State} (h : quiet s)
    (hu : exec (fetchInstr (atBoundary s)).1 (fetchInstr (atBoundary s)).2 = .next u) :
    step s = .next (clock u) := by
  simp only [step, boundary_of_quiet h, hu]

/-! ## The bytes -/

theorem opLength_cases (op : Byte) : opLength op = 1 ∨ opLength op = 2 ∨ opLength op = 3 := by
  unfold opLength
  cases opFormat op <;> simp [Format.length]

theorem fetchBytes_zero (s : State) : fetchBytes 0 s = ([], s) := rfl

/-- A bus read leaves PC, so each of the bytes is one `fetchByte` (R84, R102). -/
theorem fetchBytes_succ (n : Nat) (s : State) :
    fetchBytes (n + 1) s
      = ((fetchByte s).1 :: (fetchBytes n (fetchByte s).2).1, (fetchBytes n (fetchByte s).2).2) := by
  simp [fetchBytes, fetchByte, setPc]

/-- THE FETCH IS THE BUS READS. The bytes read in ascending order, as many as the first of them starts, decode
to the fetched instruction with none left over, and the reads leave the state the fetch leaves (R80, R124). -/
theorem decode_fetchBytes_eq_fetchInstr (s : State) :
    decode (fetchBytes (opLength (busRead s.cpu.pc s).1) s).1 = .ok ((fetchInstr s).1, [])
      ∧ (fetchBytes (opLength (busRead s.cpu.pc s).1) s).2 = (fetchInstr s).2 := by
  change decode (fetchBytes (opLength (fetchByte s).1) s).1 = _
    ∧ (fetchBytes (opLength (fetchByte s).1) s).2 = _
  obtain len | len | len := opLength_cases (fetchByte s).1 <;>
    simp [fetchInstr, decode, fetchBytes_succ, fetchBytes_zero, len]

/-- Settles O6: a quiet step executes what the boundary fetched, which is what the bytes read over the bus
decode to. -/
theorem fetchGoesThroughTheBus : Obligations.FetchGoesThroughTheBus := by
  intro s hquiet
  obtain ⟨decoded, reads⟩ := decode_fetchBytes_eq_fetchInstr (atBoundary s)
  obtain ⟨u, hexec, -⟩ := exec_moves (fetchInstr (atBoundary s)).1 (fetchInstr (atBoundary s)).2
  exact ⟨_, u, decoded, (congrArg _ reads).trans hexec, step_of_quiet hquiet hexec⟩

end Sys2Proof.Claims
end

section
/-! The access classes against the claims' shapes (R105): how a row is executed, what an operation on the
registers does, and the forms of reading, immediate, storing and implied operations from these two. -/

namespace Sys2Proof.Claims

open Sys2Proof.Machine

/-! ## The memories under a bus access -/

/-- RAM, the cartridge, the picture unit's memories and the sprite memory of `t` are those of `s`. -/
structure SameMemories (s t : State) : Prop where
  ram : t.ram = s.ram
  cart : t.cart = s.cart
  nt : t.ppu.nt = s.ppu.nt
  pal : t.ppu.pal = s.ppu.pal
  oam : t.ppu.oam = s.ppu.oam

theorem SameMemories.refl (s : State) : SameMemories s s := ⟨rfl, rfl, rfl, rfl, rfl⟩

/-- A bus read changes no memory (R50). -/
theorem sameMemories_busRead (a : Addr) (s : State) : SameMemories s (busRead a s).2 :=
  ⟨busRead_ram a s, busRead_cart a s, busRead_nt a s, busRead_pal a s, busRead_oam a s⟩

theorem SameMemories.withRegs {s t : State} (h : SameMemories s t) (c : Cpu) (n : Nat) :
    SameMemories s { t with cpu := c, cycles := n } := ⟨h.ram, h.cart, h.nt, h.pal, h.oam⟩

theorem pictureMemoryKept_of_eq {s t : State} (cart : t.cart = s.cart) (nt : t.ppu.nt = s.ppu.nt)
    (pal : t.ppu.pal = s.ppu.pal) (oam : t.ppu.oam = s.ppu.oam) : PictureMemoryKept s t :=
  ⟨fun a => ppuRead_congr (congrArg _ cart) (congrArg _ cart) nt pal a, fun k => by rw [oam]⟩

theorem SameMemories.memoryKept {s t : State} (h : SameMemories s t) : MemoryKept s t := by
  refine ⟨fun a ha => ?_, pictureMemoryKept_of_eq h.cart h.nt h.pal h.oam⟩
  rw [busRead_storage ha, busRead_storage ha, h.ram, h.cart]

/-- A write's cycles in the model's words and in the claims' (R61). -/
theorem dmaExtra_eq (ea : Addr) (cyc : Nat) : dmaExtra ea cyc = if ea.toNat = 0x4014 then dmaCost cyc else 0 := by
  unfold dmaExtra dmaCost
  split
  · split <;> omega
  · rfl

/-- A storage address after a bus write: the mirrors of a RAM address read the byte written, every other one
reads as before (R46, R56). -/
theorem busRead_busWrite {a : Addr} (ha : holdsCode a = true) (ea : Addr) (v : Byte) {s : State}
    (hwf : Memory.wf s.ram = true) :
    (busRead a (busWrite ea v s)).1 =
      if ea.toNat ≤ 0x1FFF ∧ a.toNat ≤ 0x1FFF ∧ a.toNat % 0x800 = ea.toNat % 0x800 then v
      else (busRead a s).1 := by
  rw [busRead_storage ha, busRead_storage ha]
  dsimp only
  by_cases a_ram : a.toNat ≤ 0x1FFF
  · rw [if_pos a_ram, if_pos a_ram, busWrite_ramContent]
    by_cases ea_ram : ea.toNat ≤ 0x1FFF
    · rw [if_pos ea_ram, readCell_writeCell hwf]
      exact if_congr (by simp only [ramIndex, ea_ram, a_ram, true_and]) rfl rfl
    · rw [if_neg ea_ram, if_neg fun h => ea_ram h.1]
  · rw [if_neg a_ram, if_neg a_ram, if_neg fun h => a_ram h.2.1]
    simp only [prgIndex, busWrite_cart_prg, busWrite_cart_prgBanks]

theorem writesPicture_eq_false {ea : Addr} (h : writesPicture ea = false) :
    ea.toNat ≠ 0x4014
      ∧ ¬ (0x2000 ≤ ea.toNat ∧ ea.toNat ≤ 0x3FFF ∧ (ea.toNat % 8 = 4 ∨ ea.toNat % 8 = 7)) := by
  simp only [writesPicture, Bool.or_eq_false_iff, Bool.and_eq_false_iff, decide_eq_false_iff_not] at h
  omega

/-- A write outside the claims' picture addresses leaves the picture unit's memory (R329, R333, R60). -/
theorem pictureMemoryKept_busWrite {ea : Addr} (h : writesPicture ea = false) (v : Byte) (s : State) :
    PictureMemoryKept s (busWrite ea v s) := by
  obtain ⟨notDma, notData⟩ := writesPicture_eq_false h
  obtain ⟨cart, nt, pal, oam⟩ := busWrite_memories notDma notData v s
  exact pictureMemoryKept_of_eq cart nt pal oam

/-- ONE STORE. A bus write made after accesses that changed no memory stores its byte, whatever becomes of the
registers and the cycle count. -/
theorem storesByte_busWrite {s u : State} (h : SameMemories s u) (hwf : Memory.wf s.ram = true) (ea : Addr)
    (v : Byte) (c : Cpu) (n : Nat) : StoresByte ea v s { busWrite ea v u with cpu := c, cycles := n } := by
  obtain ⟨kept, picture, oam⟩ := h.memoryKept
  refine ⟨fun a ha => ?_, fun hea => ?_⟩
  · rw [busRead_with, busRead_busWrite ha ea v (h.ram ▸ hwf), kept a ha]
  · obtain ⟨picture', oam'⟩ := pictureMemoryKept_busWrite hea v u
    exact ⟨fun a => (picture' a).trans (picture a), fun k => (oam' k).trans (oam k)⟩

/-! ## Rows -/

/-- The row is encoded with its opcode byte and `exec` gives its instruction the meaning `f`. -/
def Row.Runs (row : Row) (f : State → State) : Prop := row.encoded ∧ ∀ s, exec row.instr s = .next (f s)

/-- Every memory row of `k` is of class `read`, with operation `op` and the row's own cycles and mark. -/
def ReadRows (k : MemoryOp) (op : Byte → State → State) : Prop :=
  ∀ m, ∀ row ∈ memRows k m, row.Runs (readInstr row.cycles row.penalty m op)

/-- Every memory row of `k` is of class `write`, storing `val` of the registers. -/
def WriteRows (k : MemoryOp) (val : Cpu → Byte) : Prop :=
  ∀ m, ∀ row ∈ memRows k m, row.Runs (writeInstr row.cycles m val)

/-- Every immediate row of `k` has operation `op`. -/
def ImmediateRows (k : MemoryOp) (op : Byte → State → State) : Prop :=
  ∀ b, ∀ row ∈ immRows k b, row.Runs (immInstr row.cycles b op)

/-- No memory operation has the indirect jump's mode, so addressing leaves the state (R115). -/
theorem resolve_state_of_row {k : MemoryOp} {m : Mode} {row : Row} (h : row ∈ memRows k m) (s : State) :
    (resolve m s).state = s := by
  refine resolve_state (fun p hm => ?_) s
  subst hm
  cases k <;> cases h

/-- The reads of a row's operand change no memory (R50). -/
theorem sameMemories_operand {k : MemoryOp} {m : Mode} {row : Row} (h : row ∈ memRows k m) (s : State) :
    SameMemories s (operand m s).after := by
  simpa only [operand, resolve_state_of_row h] using sameMemories_busRead (resolve m s).ea s

/-! ## Operations -/

/-- `op` changes the CPU's registers only, and in the way `E` says. -/
def RegisterEffect (op : State → State) (E : Cpu → Cpu → Prop) : Prop :=
  ∃ f : Cpu → Cpu, (∀ u, op u = { u with cpu := f u.cpu }) ∧ ∀ c, E c (f c)

/-! ## Forms -/

theorem readingForms_of_rows {k : MemoryOp} {op : Byte → State → State} {E : Byte → Cpu → Cpu → Prop}
    (hrows : ReadRows k op) (hop : ∀ v, RegisterEffect (op v) (E v)) : ReadingForms k E := by
  choose f hf hE using hop
  intro m s row hrow
  obtain ⟨encoded, runs⟩ := hrows m row hrow
  have closed : readInstr row.cycles row.penalty m op s =
      { (operand m s).after with
        cpu := f (operand m s).value s.cpu, cycles := row.readCycles (operand m s).crossed } := by
    rw [readInstr_eq f hf]
    simp only [operand, resolve_state_of_row hrow, Row.readCycles]
  exact ⟨encoded, _, (runs s).trans (congrArg _ closed), hE _ s.cpu, rfl,
    ((sameMemories_operand hrow s).withRegs _ _).memoryKept⟩

theorem immediateForms_of_rows {k : MemoryOp} {op : Byte → State → State} {E : Byte → Cpu → Cpu → Prop}
    (hrows : ImmediateRows k op) (hop : ∀ v, RegisterEffect (op v) (E v)) : ImmediateForms k E := by
  choose f hf hE using hop
  intro b s row hrow
  obtain ⟨encoded, runs⟩ := hrows b row hrow
  exact ⟨encoded, _, (runs s).trans (congrArg _ (immInstr_eq f hf _ b s)), hE b s.cpu, rfl⟩

theorem registerForm_of_runs {row : Row} {op : State → State} {E : Cpu → Cpu → Prop}
    (hrow : row.Runs (regInstr row.cycles op)) (hop : RegisterEffect op E) : RegisterForm row E := by
  obtain ⟨f, hf, hE⟩ := hop
  obtain ⟨encoded, runs⟩ := hrow
  exact fun s => ⟨encoded, _, (runs s).trans (congrArg _ (regInstr_eq f hf _ s)), hE s.cpu, rfl⟩

theorem storingForms_of_rows {k : MemoryOp} {V : Cpu → Byte} (hrows : WriteRows k V) : StoringForms k V := by
  intro m s row hrow
  obtain ⟨encoded, runs⟩ := hrows m row hrow
  have closed : writeInstr row.cycles m V s =
      { busWrite (resolve m s).ea (V s.cpu) s with
        cpu := s.cpu, cycles := row.cycles + dmaExtra (resolve m s).ea s.cyc } := by
    rw [writeInstr_eq, resolve_state_of_row hrow, dmaExtra_eq]
    simp only [busWrite_cpu]
  rw [resolve_state_of_row hrow]
  exact ⟨encoded, _, (runs s).trans (congrArg _ closed), rfl,
    fun hwf => storesByte_busWrite (.refl s) hwf _ _ _ _⟩

end Sys2Proof.Claims
end

section
/-! Loads, stores and transfers (spec/41_load_store_transfer.md; R241, R242 and R253 of
spec/46_undocumented.md). -/

namespace Sys2Proof.Claims

open Sys2Proof.Machine

/-! ## What the operations do to the registers -/

/-- `SetNZ` writes N and Z for its value and keeps the other flags (R122). -/
theorem setsNZ_setNZ (v p : Byte) : SetsNZ v p (setNZ v p) := by
  refine ⟨getLsbD_setNZ v p bitN, getLsbD_setNZ v p bitZ, fun k hN hZ => ?_⟩
  exact (getLsbD_setNZ v p k).trans ((if_neg hN).trans (if_neg hZ))

theorem registerEffect_loadA (g : Cpu → Byte) :
    RegisterEffect (fun u => loadA (g u.cpu) u) fun c => LoadsA (g c) c :=
  ⟨fun c => { c with a := g c, p := setNZ (g c) c.p }, fun _ => rfl, fun _ => ⟨_, rfl, setsNZ_setNZ _ _⟩⟩

theorem registerEffect_loadX (g : Cpu → Byte) :
    RegisterEffect (fun u => loadX (g u.cpu) u) fun c => LoadsX (g c) c :=
  ⟨fun c => { c with x := g c, p := setNZ (g c) c.p }, fun _ => rfl, fun _ => ⟨_, rfl, setsNZ_setNZ _ _⟩⟩

theorem registerEffect_loadY (g : Cpu → Byte) :
    RegisterEffect (fun u => loadY (g u.cpu) u) fun c => LoadsY (g c) c :=
  ⟨fun c => { c with y := g c, p := setNZ (g c) c.p }, fun _ => rfl, fun _ => ⟨_, rfl, setsNZ_setNZ _ _⟩⟩

theorem registerEffect_loadA_operand (m : Byte) : RegisterEffect (loadA m) (LoadsA m) :=
  registerEffect_loadA fun _ => m

theorem registerEffect_loadX_operand (m : Byte) : RegisterEffect (loadX m) (LoadsX m) :=
  registerEffect_loadX fun _ => m

theorem registerEffect_loadY_operand (m : Byte) : RegisterEffect (loadY m) (LoadsY m) :=
  registerEffect_loadY fun _ => m

theorem registerEffect_opLax (m : Byte) : RegisterEffect (opLax m) (LoadsAX m) :=
  ⟨fun c => { c with a := m, x := m, p := setNZ m c.p }, fun _ => rfl, fun _ => ⟨_, rfl, setsNZ_setNZ _ _⟩⟩

theorem registerEffect_opLas (m : Byte) : RegisterEffect (opLas m) (LoadsAXS m) :=
  ⟨fun c => { c with
      a := m &&& c.sp, x := m &&& c.sp, sp := m &&& c.sp, p := setNZ (m &&& c.sp) c.p },
    fun _ => rfl, fun _ => ⟨_, rfl, setsNZ_setNZ _ _⟩⟩

/-- TXS touches SP alone (R151). -/
theorem registerEffect_opTxs : RegisterEffect opTxs fun c d => d = { c with sp := c.x } :=
  ⟨fun c => { c with sp := c.x }, fun _ => rfl, fun _ => rfl⟩

/-! ## Rows

At each mode there is no row, or there is one and its arm of `exec` is the class with the row's own cycles. -/

theorem readRows_lda : ReadRows .lda loadA := fun m => by
  cases m with
  | zpy | ind => exact List.forall_mem_nil _
  | _ => exact List.forall_mem_singleton.mpr ⟨rfl, fun _ => rfl⟩

theorem readRows_ldx : ReadRows .ldx loadX := fun m => by
  cases m with
  | zpx | abx | ind | izx | izy => exact List.forall_mem_nil _
  | _ => exact List.forall_mem_singleton.mpr ⟨rfl, fun _ => rfl⟩

theorem readRows_ldy : ReadRows .ldy loadY := fun m => by
  cases m with
  | zpy | aby | ind | izx | izy => exact List.forall_mem_nil _
  | _ => exact List.forall_mem_singleton.mpr ⟨rfl, fun _ => rfl⟩

theorem readRows_lax : ReadRows .lax opLax := fun m => by
  cases m with
  | zpx | abx | ind => exact List.forall_mem_nil _
  | _ => exact List.forall_mem_singleton.mpr ⟨rfl, fun _ => rfl⟩

theorem readRows_las : ReadRows .las opLas := fun m => by
  cases m with
  | aby => exact List.forall_mem_singleton.mpr ⟨rfl, fun _ => rfl⟩
  | _ => exact List.forall_mem_nil _

theorem writeRows_sta : WriteRows .sta regA := fun m => by
  cases m with
  | zpy | ind => exact List.forall_mem_nil _
  | _ => exact List.forall_mem_singleton.mpr ⟨rfl, fun _ => rfl⟩

theorem writeRows_stx : WriteRows .stx regX := fun m => by
  cases m with
  | zp | zpy | abs => exact List.forall_mem_singleton.mpr ⟨rfl, fun _ => rfl⟩
  | _ => exact List.forall_mem_nil _

theorem writeRows_sty : WriteRows .sty regY := fun m => by
  cases m with
  | zp | zpx | abs => exact List.forall_mem_singleton.mpr ⟨rfl, fun _ => rfl⟩
  | _ => exact List.forall_mem_nil _

theorem writeRows_sax : WriteRows .sax regAandX := fun m => by
  cases m with
  | zp | zpy | abs | izx => exact List.forall_mem_singleton.mpr ⟨rfl, fun _ => rfl⟩
  | _ => exact List.forall_mem_nil _

theorem immediateRows_lda : ImmediateRows .lda loadA :=
  fun _ => List.forall_mem_singleton.mpr ⟨rfl, fun _ => rfl⟩

theorem immediateRows_ldx : ImmediateRows .ldx loadX :=
  fun _ => List.forall_mem_singleton.mpr ⟨rfl, fun _ => rfl⟩

theorem immediateRows_ldy : ImmediateRows .ldy loadY :=
  fun _ => List.forall_mem_singleton.mpr ⟨rfl, fun _ => rfl⟩

/-! ## The obligations -/

/-- Settles O18: each load is of class `read` or immediate, and its operation writes the operand byte, with N
and Z, into its registers only. -/
theorem loadsFillTheirRegister : Obligations.LoadsFillTheirRegister :=
  ⟨readingForms_of_rows readRows_lda registerEffect_loadA_operand,
    immediateForms_of_rows immediateRows_lda registerEffect_loadA_operand,
    readingForms_of_rows readRows_ldx registerEffect_loadX_operand,
    immediateForms_of_rows immediateRows_ldx registerEffect_loadX_operand,
    readingForms_of_rows readRows_ldy registerEffect_loadY_operand,
    immediateForms_of_rows immediateRows_ldy registerEffect_loadY_operand,
    readingForms_of_rows readRows_lax registerEffect_opLax,
    readingForms_of_rows readRows_las registerEffect_opLas⟩

/-- Settles O19: each store is of class `write`, whose one bus write is the state's only change but the cycles. -/
theorem storesWriteOneByte : Obligations.StoresWriteOneByte :=
  ⟨storingForms_of_rows writeRows_sta, storingForms_of_rows writeRows_stx,
    storingForms_of_rows writeRows_sty, storingForms_of_rows writeRows_sax⟩

/-- Settles O20: five transfers are loads of a register's own value, TXS is a plain copy to SP. -/
theorem transfersCopyARegister : Obligations.TransfersCopyARegister :=
  ⟨registerForm_of_runs ⟨rfl, fun _ => rfl⟩ (registerEffect_loadX (·.a)),
    registerForm_of_runs ⟨rfl, fun _ => rfl⟩ (registerEffect_loadY (·.a)),
    registerForm_of_runs ⟨rfl, fun _ => rfl⟩ (registerEffect_loadA (·.x)),
    registerForm_of_runs ⟨rfl, fun _ => rfl⟩ (registerEffect_loadA (·.y)),
    registerForm_of_runs ⟨rfl, fun _ => rfl⟩ (registerEffect_loadX (·.sp)),
    registerForm_of_runs ⟨rfl, fun _ => rfl⟩ registerEffect_opTxs⟩

end Sys2Proof.Claims
end

section
/-! The class `rmw` against the claims' shape (R105): one read, one write of the result at the same address, then
the registers. -/

namespace Sys2Proof.Claims

open Sys2Proof.Machine

/-- Every memory row of `k` is of class `rmw`, with result `res`, then `fin`, and the row's own cycles. -/
def ModifyRows (k : MemoryOp) (res : Byte → Byte → Byte) (fin : Byte → Byte → State → State) : Prop :=
  ∀ m, ∀ row ∈ memRows k m, row.Runs (rmwInstr row.cycles m res fin)

theorem modifyingForms_of_rows {k : MemoryOp} {res : Byte → Byte → Byte} {fin : Byte → Byte → State → State}
    {R : Byte → Byte → Byte → Prop} {E : Byte → Byte → Cpu → Cpu → Prop} (hrows : ModifyRows k res fin)
    (hres : ∀ v p, R v p (res v p)) (hfin : ∀ v r, RegisterEffect (fin v r) (E v r)) : ModifyingForms k R E := by
  choose f hf hE using hfin
  intro m s row hrow
  obtain ⟨encoded, runs⟩ := hrows m row hrow
  have closed : rmwInstr row.cycles m res fin s =
      { busWrite (operand m s).ea (res (operand m s).value s.cpu.p) (operand m s).after with
        cpu := f (operand m s).value (res (operand m s).value s.cpu.p) s.cpu
        cycles := row.cycles + dmaExtra (operand m s).ea s.cyc } := by
    rw [rmwInstr_eq f hf]
    simp only [operand, resolve_state_of_row hrow, dmaExtra_eq]
  exact ⟨encoded, _, _, (runs s).trans (congrArg _ closed), hres _ _, hE _ _ s.cpu, rfl,
    fun hwf => storesByte_busWrite (sameMemories_operand hrow s) hwf _ _ _ _⟩

end Sys2Proof.Claims
end

section
/-! Arithmetic, logic, compare, increment and decrement (spec/42_arith_logic.md; R254 of
spec/46_undocumented.md). -/

namespace Sys2Proof.Claims

open Sys2Proof.Machine

/-! ## Flags -/

/-- `Compare` writes C, N and Z and keeps the other flags (R176). -/
theorem setsCNZ_compareFlags (r m p : Byte) :
    SetsCNZ (decide (m.toNat ≤ r.toNat)) (r - m) p (compareFlags r m p) := by
  refine ⟨getLsbD_compareFlags r m p bitC, getLsbD_compareFlags r m p bitN, getLsbD_compareFlags r m p bitZ,
    fun k hC hN hZ => ?_⟩
  exact (getLsbD_compareFlags r m p k).trans ((if_neg hN).trans ((if_neg hZ).trans (if_neg hC)))

/-- `AddCore` writes C, V, N and Z and keeps the other flags (R175). -/
theorem setsCVNZ_addFlags (a m p : Byte) :
    SetsCVNZ (decide (255 < addSum a m p)) (addOverflow a m (addResult a m p)) (addResult a m p) p
      (addFlags a m p) := by
  refine ⟨getLsbD_addFlags a m p bitC, getLsbD_addFlags a m p bitV, getLsbD_addFlags a m p bitN,
    getLsbD_addFlags a m p bitZ, fun k hC hV hN hZ => ?_⟩
  exact (getLsbD_addFlags a m p k).trans
    ((if_neg hN).trans ((if_neg hZ).trans ((if_neg hV).trans (if_neg hC))))

/-! ## The addition and the subtraction in integers -/

theorem carry_eq_carryIn (p : Byte) : carry p = carryIn p := by
  unfold carry carryIn
  split <;> rfl

theorem carryIn_le_one (p : Byte) : carryIn p ≤ 1 := by
  unfold carryIn
  split <;> omega

theorem addResult_toNat (a m p : Byte) : (addResult a m p).toNat = (a.toNat + m.toNat + carryIn p) % 256 :=
  BitVec.toNat_ofNat ..

theorem addOverflow_eq_msb (a m r : Byte) :
    addOverflow a m r = ((a.msb ^^ r.msb) && (m.msb ^^ r.msb)) := by
  have mask (v : Byte) : (v &&& 0x80 != 0) = v.msb := by
    rw [show (0x80 : Byte) = BitVec.twoPow 8 7 from rfl, BitVec.and_twoPow,
      BitVec.msb_eq_getLsbD_last]
    cases v.getLsbD 7 <;> rfl
  unfold addOverflow
  rw [mask, BitVec.msb_and, BitVec.msb_xor, BitVec.msb_xor]

/-- The sign rule for V says that the signed sum leaves the byte range (R175). -/
theorem addOverflow_addResult (a m p : Byte) :
    addOverflow a m (addResult a m p) = outsideSigned (a.toInt + m.toInt + carryIn p) := by
  have := addResult_toNat a m p
  have := carryIn_le_one p
  have := a.isLt
  have := m.isLt
  rw [addOverflow_eq_msb, outsideSigned, Bool.eq_iff_iff]
  simp only [BitVec.msb_eq_decide, BitVec.toInt_eq_toNat_cond, Bool.and_eq_true, Bool.or_eq_true,
    decide_eq_true_eq, bne_iff_ne, ne_eq, decide_eq_decide]
  omega

theorem toNat_complement (m : Byte) : (m ^^^ 0xFF).toNat = 255 - m.toNat := by
  rw [show m ^^^ 0xFF = ~~~m from BitVec.xor_allOnes, BitVec.toNat_not]

theorem toInt_complement (m : Byte) : (m ^^^ 0xFF).toInt = -m.toInt - 1 := by
  have := m.isLt
  simp only [BitVec.toInt_eq_toNat_cond, toNat_complement]
  omega

/-- R161's own reduction: adding the complement of `m` subtracts `m` and the borrow. -/
theorem subtracts_of_adds_complement {m : Byte} {c d : Cpu} (h : Adds (m ^^^ 0xFF) c d) : Subtracts m c d := by
  obtain ⟨r, p, hd, value, flags⟩ := h
  have := m.isLt
  have := toNat_complement m
  refine ⟨r, p, hd, by omega, ?_⟩
  have noBorrow : (255 < (c.a.toNat : Int) + (m ^^^ 0xFF).toNat + carry c.p)
      ↔ 0 ≤ (c.a.toNat : Int) - m.toNat - (1 - carry c.p) := by omega
  have signed : c.a.toInt + (m ^^^ 0xFF).toInt + carry c.p = c.a.toInt - m.toInt - (1 - carry c.p) := by
    have := toInt_complement m
    omega
  rwa [decide_eq_decide.mpr noBorrow, signed] at flags

/-! ## What the operations do to the registers -/

/-- A weaker relation holds of what an operation does. -/
theorem RegisterEffect.mono {op : State → State} {E E' : Cpu → Cpu → Prop} (h : RegisterEffect op E)
    (imp : ∀ c d, E c d → E' c d) : RegisterEffect op E' := by
  obtain ⟨f, hf, hE⟩ := h
  exact ⟨f, hf, fun c => imp c _ (hE c)⟩

/-- `AddCore` writes A and P, and adds in integers (R160, R175). -/
theorem registerEffect_addCore (m : Byte) : RegisterEffect (addCore m) (Adds m) := by
  refine ⟨fun c => { c with a := addResult c.a m c.p, p := addFlags c.a m c.p }, fun _ => rfl, fun c => ?_⟩
  have carry_in := carry_eq_carryIn c.p
  refine ⟨_, _, rfl, ?_, ?_⟩
  · rw [addResult_toNat, carry_in]
    norm_cast
  · rw [carry_in, ← addOverflow_addResult]
    exact_mod_cast setsCVNZ_addFlags c.a m c.p

theorem registerEffect_opAdc (m : Byte) : RegisterEffect (opAdc m) (Adds m) := registerEffect_addCore m

theorem registerEffect_opSbc (m : Byte) : RegisterEffect (opSbc m) (Subtracts m) :=
  (registerEffect_addCore (m ^^^ 0xFF)).mono fun _ _ => subtracts_of_adds_complement

theorem registerEffect_opAnd (m : Byte) : RegisterEffect (opAnd m) (Ands m) :=
  registerEffect_loadA fun c => c.a &&& m

theorem registerEffect_opOra (m : Byte) : RegisterEffect (opOra m) (Ors m) :=
  registerEffect_loadA fun c => c.a ||| m

theorem registerEffect_opEor (m : Byte) : RegisterEffect (opEor m) (Xors m) :=
  registerEffect_loadA fun c => c.a ^^^ m

/-- A compare of register value `g` writes P alone (R176). -/
theorem registerEffect_compare (g : Cpu → Byte) (m : Byte) :
    RegisterEffect (fun u => setP (compareFlags (g u.cpu) m u.cpu.p) u) fun c => Compares (g c) m c :=
  ⟨fun c => { c with p := compareFlags (g c) m c.p }, fun _ => rfl, fun _ => ⟨_, rfl, setsCNZ_compareFlags _ _ _⟩⟩

theorem registerEffect_opCmp (m : Byte) : RegisterEffect (opCmp m) fun c => Compares c.a m c :=
  registerEffect_compare (·.a) m

theorem registerEffect_opCpx (m : Byte) : RegisterEffect (opCpx m) fun c => Compares c.x m c :=
  registerEffect_compare (·.x) m

theorem registerEffect_opCpy (m : Byte) : RegisterEffect (opCpy m) fun c => Compares c.y m c :=
  registerEffect_compare (·.y) m

theorem registerEffect_opBit (m : Byte) : RegisterEffect (opBit m) (TestsBits m) := by
  refine ⟨fun c => { c with p := bitFlags c.a m c.p }, fun _ => rfl, fun c => ?_⟩
  have bits := getLsbD_bitFlags c.a m c.p
  refine ⟨_, rfl, bits bitZ, bits bitN, bits bitV, fun k hZ hN hV => ?_⟩
  exact (bits k).trans ((if_neg hV).trans ((if_neg hN).trans (if_neg hZ)))

theorem registerEffect_finIncDec (m r : Byte) : RegisterEffect (finIncDec m r) (CountsNZ m r) :=
  ⟨fun c => { c with p := setNZ r c.p }, fun _ => rfl, fun _ => ⟨_, rfl, setsNZ_setNZ _ _⟩⟩

theorem countsUp_incResult (m p : Byte) : CountsUp m p (incResult m p) := BitVec.toNat_add m 1

theorem countsDown_decResult (m p : Byte) : CountsDown m p (decResult m p) := by
  unfold CountsDown decResult
  bv_omega

theorem registerEffect_opInx : RegisterEffect opInx fun c d =>
    ∃ r : Byte, r.toNat = (c.x.toNat + 1) % 256 ∧ LoadsX r c d :=
  (registerEffect_loadX fun c => c.x + 1).mono fun c _ loads => ⟨_, countsUp_incResult c.x c.p, loads⟩

theorem registerEffect_opIny : RegisterEffect opIny fun c d =>
    ∃ r : Byte, r.toNat = (c.y.toNat + 1) % 256 ∧ LoadsY r c d :=
  (registerEffect_loadY fun c => c.y + 1).mono fun c _ loads => ⟨_, countsUp_incResult c.y c.p, loads⟩

theorem registerEffect_opDex : RegisterEffect opDex fun c d =>
    ∃ r : Byte, (r.toNat : Int) = ((c.x.toNat : Int) - 1) % 256 ∧ LoadsX r c d :=
  (registerEffect_loadX fun c => c.x - 1).mono fun c _ loads => ⟨_, countsDown_decResult c.x c.p, loads⟩

theorem registerEffect_opDey : RegisterEffect opDey fun c d =>
    ∃ r : Byte, (r.toNat : Int) = ((c.y.toNat : Int) - 1) % 256 ∧ LoadsY r c d :=
  (registerEffect_loadY fun c => c.y - 1).mono fun c _ loads => ⟨_, countsDown_decResult c.y c.p, loads⟩

/-! ## Rows

At each mode there is no row, or there is one and its arm of `exec` is the class with the row's own cycles. -/

theorem readRows_adc : ReadRows .adc opAdc := fun m => by
  cases m with
  | zpy | ind => exact List.forall_mem_nil _
  | _ => exact List.forall_mem_singleton.mpr ⟨rfl, fun _ => rfl⟩

theorem readRows_sbc : ReadRows .sbc opSbc := fun m => by
  cases m with
  | zpy | ind => exact List.forall_mem_nil _
  | _ => exact List.forall_mem_singleton.mpr ⟨rfl, fun _ => rfl⟩

theorem readRows_and : ReadRows .and opAnd := fun m => by
  cases m with
  | zpy | ind => exact List.forall_mem_nil _
  | _ => exact List.forall_mem_singleton.mpr ⟨rfl, fun _ => rfl⟩

theorem readRows_ora : ReadRows .ora opOra := fun m => by
  cases m with
  | zpy | ind => exact List.forall_mem_nil _
  | _ => exact List.forall_mem_singleton.mpr ⟨rfl, fun _ => rfl⟩

theorem readRows_eor : ReadRows .eor opEor := fun m => by
  cases m with
  | zpy | ind => exact List.forall_mem_nil _
  | _ => exact List.forall_mem_singleton.mpr ⟨rfl, fun _ => rfl⟩

theorem readRows_cmp : ReadRows .cmp opCmp := fun m => by
  cases m with
  | zpy | ind => exact List.forall_mem_nil _
  | _ => exact List.forall_mem_singleton.mpr ⟨rfl, fun _ => rfl⟩

theorem readRows_cpx : ReadRows .cpx opCpx := fun m => by
  cases m with
  | zp | abs => exact List.forall_mem_singleton.mpr ⟨rfl, fun _ => rfl⟩
  | _ => exact List.forall_mem_nil _

theorem readRows_cpy : ReadRows .cpy opCpy := fun m => by
  cases m with
  | zp | abs => exact List.forall_mem_singleton.mpr ⟨rfl, fun _ => rfl⟩
  | _ => exact List.forall_mem_nil _

theorem readRows_bit : ReadRows .bit opBit := fun m => by
  cases m with
  | zp | abs => exact List.forall_mem_singleton.mpr ⟨rfl, fun _ => rfl⟩
  | _ => exact List.forall_mem_nil _

theorem modifyRows_inc : ModifyRows .inc incResult finIncDec := fun m => by
  cases m with
  | zp | zpx | abs | abx => exact List.forall_mem_singleton.mpr ⟨rfl, fun _ => rfl⟩
  | _ => exact List.forall_mem_nil _

theorem modifyRows_dec : ModifyRows .dec decResult finIncDec := fun m => by
  cases m with
  | zp | zpx | abs | abx => exact List.forall_mem_singleton.mpr ⟨rfl, fun _ => rfl⟩
  | _ => exact List.forall_mem_nil _

theorem immediateRows_adc : ImmediateRows .adc opAdc :=
  fun _ => List.forall_mem_singleton.mpr ⟨rfl, fun _ => rfl⟩

theorem immediateRows_and : ImmediateRows .and opAnd :=
  fun _ => List.forall_mem_singleton.mpr ⟨rfl, fun _ => rfl⟩

theorem immediateRows_ora : ImmediateRows .ora opOra :=
  fun _ => List.forall_mem_singleton.mpr ⟨rfl, fun _ => rfl⟩

theorem immediateRows_eor : ImmediateRows .eor opEor :=
  fun _ => List.forall_mem_singleton.mpr ⟨rfl, fun _ => rfl⟩

theorem immediateRows_cmp : ImmediateRows .cmp opCmp :=
  fun _ => List.forall_mem_singleton.mpr ⟨rfl, fun _ => rfl⟩

theorem immediateRows_cpx : ImmediateRows .cpx opCpx :=
  fun _ => List.forall_mem_singleton.mpr ⟨rfl, fun _ => rfl⟩

theorem immediateRows_cpy : ImmediateRows .cpy opCpy :=
  fun _ => List.forall_mem_singleton.mpr ⟨rfl, fun _ => rfl⟩

/-- 0xE9 and 0xEB are one instruction (R254). -/
theorem immediateRows_sbc : ImmediateRows .sbc opSbc :=
  fun _ => List.forall_mem_cons.mpr ⟨⟨rfl, fun _ => rfl⟩, List.forall_mem_singleton.mpr ⟨rfl, fun _ => rfl⟩⟩

/-! ## The obligations -/

/-- Settles O21: ADC is of class `read` or immediate, and `AddCore` is the addition in integers. -/
theorem adcAddsWithCarry : Obligations.AdcAddsWithCarry :=
  ⟨readingForms_of_rows readRows_adc registerEffect_opAdc,
    immediateForms_of_rows immediateRows_adc registerEffect_opAdc⟩

/-- Settles O22: SBC adds the complement of its operand, which is the subtraction in integers. -/
theorem sbcSubtractsWithBorrow : Obligations.SbcSubtractsWithBorrow :=
  ⟨readingForms_of_rows readRows_sbc registerEffect_opSbc,
    immediateForms_of_rows immediateRows_sbc registerEffect_opSbc⟩

/-- Settles O23: the three operations load A with the combined byte. -/
theorem logicCombinesWithA : Obligations.LogicCombinesWithA :=
  ⟨readingForms_of_rows readRows_and registerEffect_opAnd,
    immediateForms_of_rows immediateRows_and registerEffect_opAnd,
    readingForms_of_rows readRows_ora registerEffect_opOra,
    immediateForms_of_rows immediateRows_ora registerEffect_opOra,
    readingForms_of_rows readRows_eor registerEffect_opEor,
    immediateForms_of_rows immediateRows_eor registerEffect_opEor⟩

/-- Settles O24: the three compares are one operation on three registers; it and BIT write P alone. -/
theorem comparesAndBitSetFlagsOnly : Obligations.ComparesAndBitSetFlagsOnly :=
  ⟨readingForms_of_rows readRows_cmp registerEffect_opCmp,
    immediateForms_of_rows immediateRows_cmp registerEffect_opCmp,
    readingForms_of_rows readRows_cpx registerEffect_opCpx,
    immediateForms_of_rows immediateRows_cpx registerEffect_opCpx,
    readingForms_of_rows readRows_cpy registerEffect_opCpy,
    immediateForms_of_rows immediateRows_cpy registerEffect_opCpy,
    readingForms_of_rows readRows_bit registerEffect_opBit⟩

/-- Settles O25: INC and DEC are of class `rmw`, and only N and Z follow the write. -/
theorem incDecModifyMemory : Obligations.IncDecModifyMemory :=
  ⟨modifyingForms_of_rows modifyRows_inc countsUp_incResult registerEffect_finIncDec,
    modifyingForms_of_rows modifyRows_dec countsDown_decResult registerEffect_finIncDec⟩

/-- Settles O26: each count is a load of its register with INC's or DEC's result. -/
theorem indexRegistersCount : Obligations.IndexRegistersCount :=
  ⟨registerForm_of_runs ⟨rfl, fun _ => rfl⟩ registerEffect_opInx,
    registerForm_of_runs ⟨rfl, fun _ => rfl⟩ registerEffect_opIny,
    registerForm_of_runs ⟨rfl, fun _ => rfl⟩ registerEffect_opDex,
    registerForm_of_runs ⟨rfl, fun _ => rfl⟩ registerEffect_opDey⟩

end Sys2Proof.Claims
end

section
/-! Pages of the address space (spec/40_step_addressing.md R113, R115) in integers: a page is the quotient by 256. -/

namespace Sys2Proof.Machine

theorem toNat_and_highByte (a : Addr) : (a &&& 0xFF00#16).toNat = a.toNat / 256 * 256 := by
  have upper : (a.toNat &&& 0xFF00) / 2 ^ 8 = a.toNat / 2 ^ 8 % 2 ^ 8 := by
    rw [Nat.and_div_two_pow]
    exact Nat.and_two_pow_sub_one_eq_mod _ 8
  have lower : (a.toNat &&& 0xFF00) % 2 ^ 8 = 0 := by
    rw [Nat.and_mod_two_pow]
    exact Nat.and_zero _
  have := a.isLt
  rw [BitVec.toNat_and, show (0xFF00#16).toNat = 0xFF00 from rfl]
  omega

theorem toNat_and_lowByte (a : Addr) : (a &&& 0x00FF#16).toNat = a.toNat % 256 := by
  rw [BitVec.toNat_and]
  exact Nat.and_two_pow_sub_one_eq_mod _ 8

theorem pageCross_eq_decide (a b : Addr) : pageCross a b = decide (b.toNat / 256 ≠ a.toNat / 256) := by
  rw [pageCross, Bool.eq_iff_iff, bne_iff_ne, decide_eq_true_iff, ne_eq, ← BitVec.toNat_inj,
    toNat_and_highByte, toNat_and_highByte]
  omega

/-- The indirect jump's pointer wraps in its page (R115). -/
theorem nextInPage_toNat (p : Addr) : (nextInPage p).toNat = p.toNat / 256 * 256 + (p.toNat + 1) % 256 := by
  have low : ((p + 1) &&& 0x00FF#16).toNat = (p.toNat + 1) % 256 := by
    rw [toNat_and_lowByte, BitVec.toNat_add]
    exact Nat.mod_mod_of_dvd _ (by decide)
  have disjoint := Nat.two_pow_add_eq_or_of_lt (Nat.mod_lt (p.toNat + 1) (by decide : 0 < 2 ^ 8)) (p.toNat / 256)
  rw [nextInPage, BitVec.toNat_or, toNat_and_highByte, low, Nat.mul_comm]
  exact disjoint.symm

/-- A branch goes its signed distance from the next instruction, mod 65536 (R118). -/
theorem branchTarget_toNat (off : Byte) (pc : Addr) :
    ((branchTarget off pc).toNat : Int) = (pc.toNat + off.toInt) % 65536 := by
  have distance : (off.signExtend 16).toInt = off.toInt := BitVec.toInt_signExtend_of_le (by decide)
  rw [BitVec.toInt_eq_toNat_cond] at distance
  rw [branchTarget, BitVec.toNat_add]
  omega

end Sys2Proof.Machine
end

section
/-! Pushes and interrupt entry (R120, R288) against the claims' words for the stack. -/

namespace Sys2Proof.Claims

open Sys2Proof.Machine

/-! ## Pushed bytes -/

theorem stackSlot_eq_stackIndex (sp : Byte) (i : Nat) : stackSlot sp i = stackIndex (sp - BitVec.ofNat 8 i) := rfl

/-- The stack page has 256 slots. -/
theorem stackSlot_inj {sp : Byte} {i j : Nat} (hi : i < 256) (hj : j < 256)
    (h : stackSlot sp i = stackSlot sp j) : i = j := by
  have same : sp - BitVec.ofNat 8 i = sp - BitVec.ofNat 8 j := BitVec.eq_of_toNat_eq (Nat.add_left_cancel h)
  have := congrArg BitVec.toNat ((BitVec.sub_right_inj sp).mp same)
  rwa [BitVec.toNat_ofNat, BitVec.toNat_ofNat, Nat.mod_eq_of_lt hi, Nat.mod_eq_of_lt hj] at this

theorem holdsPushed_nil {m : Memory} (hwf : Memory.wf m = true) (sp : Byte) : HoldsPushed sp [] m m :=
  ⟨hwf, fun _ hi => absurd hi (Nat.not_lt_zero _), fun _ _ => rfl⟩

/-- ONE MORE PUSH. The next byte goes to the next slot down and disturbs none of those already there. -/
theorem HoldsPushed.push {sp : Byte} {bytes : List Byte} {old new : Memory} (h : HoldsPushed sp bytes old new)
    (room : bytes.length < 256) (b : Byte) :
    HoldsPushed sp (bytes ++ [b]) old (writeCell new (stackSlot sp bytes.length) b) := by
  obtain ⟨wf, held, kept⟩ := h
  refine ⟨wf_writeCell wf _ _, fun i hi => ?_, fun k hk => ?_⟩
  · rw [List.length_append, List.length_singleton] at hi
    rw [readCell_writeCell wf]
    obtain before | rfl : i < bytes.length ∨ i = bytes.length := by omega
    · rw [if_neg fun same => before.ne (stackSlot_inj (by omega) room same), held i before,
        List.getD_append _ _ _ _ before]
    · rw [if_pos rfl, List.getD_append_right _ _ _ _ le_rfl, Nat.sub_self]
      rfl
  · have outside (i : Nat) (hi : i < bytes.length + 1) : k ≠ stackSlot sp i := hk i (by simpa using hi)
    rw [readCell_writeCell wf, if_neg (outside _ (Nat.lt_succ_self _))]
    exact kept k fun i hi => outside i (Nat.lt_succ_of_lt hi)

theorem holdsPushed_singleton {m : Memory} (hwf : Memory.wf m = true) (sp b : Byte) :
    HoldsPushed sp [b] m (writeCell m (stackIndex sp) b) := by
  simpa [stackSlot_eq_stackIndex] using (holdsPushed_nil hwf sp).push (by decide) b

theorem holdsPushed_pair {m : Memory} (hwf : Memory.wf m = true) (sp b c : Byte) :
    HoldsPushed sp [b, c] m (writeCell (writeCell m (stackIndex sp) b) (stackIndex (sp - 1)) c) :=
  (holdsPushed_singleton hwf sp b).push (by simp) c

theorem holdsPushed_triple {m : Memory} (hwf : Memory.wf m = true) (sp b c d : Byte) :
    HoldsPushed sp [b, c, d] m
      (writeCell (writeCell (writeCell m (stackIndex sp) b) (stackIndex (sp - 1)) c) (stackIndex (sp - 1 - 1)) d) := by
  rw [sub_sub]
  exact (holdsPushed_pair hwf sp b c).push (by simp) d

/-! ## Interrupt entry -/

theorem packedStatus_packP (b : Bool) (p : Byte) : PackedStatus b p (packP b p) := by
  refine ⟨getLsbD_packP b p bitB, getLsbD_packP b p bitU, fun k hB hU => ?_⟩
  exact (getLsbD_packP b p k).trans ((if_neg hU).trans (if_neg hB))

theorem setsFlag_setFlag {i : Nat} (hi : i < 8) (b : Bool) (p : Byte) : SetsFlag i b p (setFlag i b p) :=
  ⟨(flag_setFlag i i b p hi).trans (if_pos rfl), fun k hk => (flag_setFlag i k b p hi).trans (if_neg hk)⟩

/-- Every vector lies in program memory (R289). -/
theorem vectorTarget_eq_vectorAt (k : Interrupt) (s : State) : vectorTarget k s.cart = vectorAt (vector k) s := by
  have low : 0x8000 ≤ (vector k).toNat := by cases k <;> decide
  have high : 0x8000 ≤ (vector k + 1).toNat := by cases k <;> decide
  rw [vectorAt, busRead_prg low, busRead_prg high, vectorTarget]

/-- TAKING AN EXCEPTION, of every kind, is the claims' entry (R288, R290). -/
theorem enters_enterInterrupt (k : Interrupt) {s : State} (hwf : Memory.wf s.ram = true) :
    Enters (vector k) (returnAddr k s.cpu.pc) (breakBit k) s (enterInterrupt k s) := by
  refine ⟨_, _, _, packedStatus_packP _ _, setsFlag_setFlag (by decide) true s.cpu.p,
    holdsPushed_triple hwf s.cpu.sp _ _ _, ?_⟩
  rw [enterInterrupt_eq, vectorTarget_eq_vectorAt, sub_sub, sub_sub]
  rfl

/-- An entry charges its own seven cycles, whatever was charged before. -/
theorem enterInterrupt_setCycles (k : Interrupt) (n : Nat) (s : State) :
    enterInterrupt k (setCycles n s) = enterInterrupt k s := by
  rw [enterInterrupt_eq, enterInterrupt_eq]
  rfl

end Sys2Proof.Claims
end

section
/-! Control flow (spec/44_control_flow.md): jumps, subroutines, branches and BRK. -/

namespace Sys2Proof.Claims

open Sys2Proof.Machine

theorem SameMemories.trans {s t u : State} (h : SameMemories s t) (h' : SameMemories t u) : SameMemories s u :=
  ⟨h'.ram.trans h.ram, h'.cart.trans h.cart, h'.nt.trans h.nt, h'.pal.trans h.pal, h'.oam.trans h.oam⟩

/-! ## The instructions in closed form -/

/-- JMP in closed form (R200). -/
theorem jumpInstr_eq (base : Nat) (m : Mode) (s : State) :
    jumpInstr base m s = { (resolve m s).state with
      cpu := { (resolve m s).state.cpu with pc := (resolve m s).ea }
      cycles := base } := by
  rw [jumpInstr, resolve_setCycles]
  rfl

/-- JSR in closed form (R201). -/
theorem callSub_eq (a : Addr) (s : State) :
    callSub a s = { s with
      ram := writeCell (writeCell s.ram (stackIndex s.cpu.sp) (hiByte (s.cpu.pc - 1)))
        (stackIndex (s.cpu.sp - 1)) (loByte (s.cpu.pc - 1))
      cpu := { s.cpu with sp := s.cpu.sp - 2, pc := a } } := by
  simp only [callSub, pushAddr, push_eq, setPc, sub_sub]
  rfl

/-- RTS in closed form (R202). -/
theorem opRts_eq (s : State) :
    opRts s = { s with
      cpu := { s.cpu with
        sp := s.cpu.sp + 2
        pc := (readCell s.ram (stackAbove s.cpu.sp 2) ++ readCell s.ram (stackAbove s.cpu.sp 1)) + 1 } } := by
  simp only [opRts, pop_eq, setPc, setSp, add_assoc]
  rfl

/-- The common branch rule in closed form (R205). -/
theorem branchInstr_eq (taken : Byte → Bool) (off : Byte) (s : State) :
    branchInstr taken off s =
      if taken s.cpu.p then
        { s with
          cpu := { s.cpu with pc := branchTarget off s.cpu.pc }
          cycles := if (branchTarget off s.cpu.pc).toNat / 256 = s.cpu.pc.toNat / 256 then 3 else 4 }
      else { s with cycles := 2 } := by
  unfold branchInstr
  simp only [setCycles_cpu, pageCross_eq_decide]
  split
  · by_cases same : (branchTarget off s.cpu.pc).toNat / 256 = s.cpu.pc.toNat / 256 <;>
      simp [same, setPc, addCycles, setCycles]
  · rfl

/-- BRK in closed form (R204). -/
theorem exec_brk (s : State) : exec .brk s = .next (enterInterrupt .brk s) :=
  congrArg Host.Outcome.next (enterInterrupt_setCycles .brk 7 s)

/-! ## Branches -/

/-- A branch whose condition is that flag `fl` is `v` meets the claim about it (R205). -/
theorem branch_runs {i : Instr} {op : Byte} {taken : Byte → Bool} {off : Byte} {fl : Nat} {v : Bool}
    (encoded : (encode i).head? = some op) (runs : ∀ s, exec i s = .next (branchInstr taken off s))
    (tests : ∀ p, taken p = true ↔ flag fl p = v) (s : State) :
    (encode i).head? = some op
      ∧ ∃ target : Addr, (target.toNat : Int) = (s.cpu.pc.toNat + off.toInt) % 65536
        ∧ exec i s = .next (if flag fl s.cpu.p = v then
            { s with
              cpu := { s.cpu with pc := target }
              cycles := if target.toNat / 256 = s.cpu.pc.toNat / 256 then 3 else 4 }
          else { s with cycles := 2 }) := by
  refine ⟨encoded, branchTarget off s.cpu.pc, branchTarget_toNat off s.cpu.pc, ?_⟩
  rw [runs, branchInstr_eq, if_congr (tests s.cpu.p) rfl rfl]

/-- A condition on a clear flag. -/
theorem not_flag_iff (fl : Nat) (p : Byte) : (!flag fl p) = true ↔ flag fl p = false := by
  rw [Bool.not_eq_true']

/-! ## The obligations -/

/-- Settles O32: the eight branches are one rule with eight conditions. -/
theorem branchesTestOneFlag : Obligations.BranchesTestOneFlag := by
  intro off s i op fl v hrow
  simp only [List.mem_cons, Prod.mk.injEq, List.not_mem_nil, or_false] at hrow
  obtain ⟨rfl, rfl, rfl, rfl⟩ | ⟨rfl, rfl, rfl, rfl⟩ | ⟨rfl, rfl, rfl, rfl⟩ | ⟨rfl, rfl, rfl, rfl⟩
    | ⟨rfl, rfl, rfl, rfl⟩ | ⟨rfl, rfl, rfl, rfl⟩ | ⟨rfl, rfl, rfl, rfl⟩ | ⟨rfl, rfl, rfl, rfl⟩ := hrow
  · exact branch_runs (taken := condBcc) rfl (fun _ => rfl) (not_flag_iff bitC) s
  · exact branch_runs (taken := condBcs) rfl (fun _ => rfl) (fun _ => Iff.rfl) s
  · exact branch_runs (taken := condBeq) rfl (fun _ => rfl) (fun _ => Iff.rfl) s
  · exact branch_runs (taken := condBne) rfl (fun _ => rfl) (not_flag_iff bitZ) s
  · exact branch_runs (taken := condBmi) rfl (fun _ => rfl) (fun _ => Iff.rfl) s
  · exact branch_runs (taken := condBpl) rfl (fun _ => rfl) (not_flag_iff bitN) s
  · exact branch_runs (taken := condBvc) rfl (fun _ => rfl) (not_flag_iff bitV) s
  · exact branch_runs (taken := condBvs) rfl (fun _ => rfl) (fun _ => Iff.rfl) s

/-- Settles O29: a jump is its addressing mode and a write of PC; the indirect mode is two reads, which change no
memory. -/
theorem jmpSetsPc : Obligations.JmpSetsPc := by
  intro a s
  refine ⟨⟨rfl, rfl⟩, rfl, _, rfl, ⟨nextInPage a, nextInPage_toNat a, ?_⟩, ?_⟩
  · rw [jumpInstr_eq]
    simp only [resolve, readPair, busRead_cpu]
  · rw [jumpInstr_eq]
    exact (((sameMemories_busRead a s).trans (sameMemories_busRead (nextInPage a) _)).withRegs _ _).memoryKept

/-- Settles O30: JSR is two pushes and RTS two pops. -/
theorem subroutineCallAndReturn : Obligations.SubroutineCallAndReturn := by
  refine ⟨fun a s hwf => ⟨rfl, _, _, rfl, holdsPushed_pair hwf s.cpu.sp _ _, ?_⟩, fun s => ⟨rfl, _, rfl, ?_⟩⟩
  · exact callSub_eq a (setCycles 6 s)
  · exact opRts_eq (setCycles 6 s)

/-- Settles O14: BRK is the entry sequence of its own kind. -/
theorem brkTakesTheEntrySequence : Obligations.BrkTakesTheEntrySequence := fun s hwf =>
  ⟨rfl, _, exec_brk s, enters_enterInterrupt .brk hwf⟩

end Sys2Proof.Claims
end

section
/-! Stack, flag and no-operation instructions (spec/45_stack_flags_nop.md; R255 to R259 of
spec/46_undocumented.md). -/

namespace Sys2Proof.Claims

open Sys2Proof.Machine

/-! ## The instructions in closed form -/

/-- A push instruction stores one byte of the registers at SP, which then goes down (R120, R220, R221). -/
theorem regInstr_push (base : Nat) (v : Cpu → Byte) (s : State) :
    regInstr base (fun u => push (v u.cpu) u) s = { s with
      ram := writeCell s.ram (stackIndex s.cpu.sp) (v s.cpu)
      cpu := { s.cpu with sp := s.cpu.sp - 1 }
      cycles := base } := by
  rw [regInstr, push_eq]
  rfl

/-- PLA in closed form (R222). -/
theorem opPla_eq (s : State) :
    opPla s = { s with
      cpu := { s.cpu with
        a := readCell s.ram (stackAbove s.cpu.sp 1)
        sp := s.cpu.sp + 1
        p := setNZ (readCell s.ram (stackAbove s.cpu.sp 1)) s.cpu.p } } := by
  rw [opPla, pop_eq]
  rfl

/-- PLP in closed form (R223). -/
theorem opPlp_eq (s : State) :
    opPlp s = { s with
      cpu := { s.cpu with
        sp := s.cpu.sp + 1
        p := unpackP (readCell s.ram (stackAbove s.cpu.sp 1)) } } := by
  rw [opPlp, pop_eq]
  rfl

/-- A degraded store only resolves its address, by page-0 reads at most, and those change nothing (R258). -/
theorem resolveInstr_eq {m : Mode} (notInd : ∀ p, m ≠ .ind p) (base : Nat) (s : State) :
    resolveInstr base m s = { s with cycles := base } :=
  resolve_state notInd (setCycles base s)

/-! ## What the operations do to the registers -/

theorem unpackedStatus_unpackP (v : Byte) : UnpackedStatus v (unpackP v) := by
  refine ⟨getLsbD_unpackP v bitB, getLsbD_unpackP v bitU, fun k hB hU => ?_⟩
  exact (getLsbD_unpackP v k).trans ((if_neg hU).trans (if_neg hB))

theorem registerEffect_setFlag {i : Nat} (hi : i < 8) (b : Bool) :
    RegisterEffect (fun u => setP (setFlag i b u.cpu.p) u)
      fun c d => ∃ p, d = { c with p := p } ∧ SetsFlag i b c.p p :=
  ⟨fun c => { c with p := setFlag i b c.p }, fun _ => rfl, fun c => ⟨_, rfl, setsFlag_setFlag hi b c.p⟩⟩

theorem registerEffect_noOperation : RegisterEffect noOperation NoEffect := ⟨id, fun _ => rfl, fun _ => rfl⟩

theorem registerEffect_discard (m : Byte) : RegisterEffect (discard m) NoEffect := ⟨id, fun _ => rfl, fun _ => rfl⟩

/-! ## Rows

Each row's arm of `exec` is the row's access class, with the operation that does nothing. -/

theorem readRows_nop : ReadRows .nop discard := fun m row hrow => by
  cases m with
  | abs =>
    cases List.mem_singleton.mp hrow
    exact ⟨rfl, fun _ => rfl⟩
  | zp | zpx | abx =>
    simp only [memRows, nopRows, List.mem_cons, List.not_mem_nil, or_false] at hrow
    casesm* _ ∨ _
    all_goals subst row; exact ⟨rfl, fun _ => rfl⟩
  | _ => cases hrow

theorem immediateRows_nop : ImmediateRows .nop discard := fun b row hrow => by
  simp only [immRows, List.mem_cons, List.not_mem_nil, or_false] at hrow
  casesm* _ ∨ _
  all_goals subst row; exact ⟨rfl, fun _ => rfl⟩

/-- The implied no-operations and the halting opcodes are one instruction (R231, R255, R259). -/
theorem registerForm_nop {i : Instr} {op : Byte} (encoded : (encode i).head? = some op)
    (runs : ∀ s, exec i s = .next (regInstr 2 noOperation s)) : RegisterForm ⟨i, op, 2, false⟩ NoEffect :=
  registerForm_of_runs ⟨encoded, runs⟩ registerEffect_noOperation

/-! ## The obligations -/

/-- Settles O33: PHA and PHP are one push, of A and of the packed status. -/
theorem pushesStoreOneByte : Obligations.PushesStoreOneByte := by
  refine fun s hwf => ⟨⟨rfl, _, _, rfl, holdsPushed_singleton hwf _ _, ?_⟩,
    ⟨rfl, _, _, _, rfl, packedStatus_packP true _, holdsPushed_singleton hwf _ _, ?_⟩⟩
  · exact regInstr_push 3 (·.a) s
  · exact regInstr_push 3 (packP true ·.p) s

/-- Settles O34: PLA and PLP are one pop, into A and into P. -/
theorem pullsLoadOneByte : Obligations.PullsLoadOneByte := by
  refine fun s => ⟨⟨rfl, _, _, rfl, setsNZ_setNZ _ _, ?_⟩, ⟨rfl, _, _, rfl, unpackedStatus_unpackP _, ?_⟩⟩
  · exact opPla_eq (setCycles 4 s)
  · exact opPlp_eq (setCycles 4 s)

/-- Settles O35: the seven flag instructions are one operation at four bits of P. -/
theorem flagInstructionsWriteOneFlag : Obligations.FlagInstructionsWriteOneFlag := by
  intro i op fl v hrow
  simp only [List.mem_cons, Prod.mk.injEq, List.not_mem_nil, or_false] at hrow
  casesm* _ ∨ _, _ ∧ _
  all_goals subst i op fl v; exact registerForm_of_runs ⟨rfl, fun _ => rfl⟩ (registerEffect_setFlag (by decide) _)

/-- Settles O36: the operations of all these rows keep the registers; a degraded store also makes no access to
its address. -/
theorem noOperationsChangeNothing : Obligations.NoOperationsChangeNothing := by
  refine ⟨fun i op hrow => ?implied, immediateForms_of_rows immediateRows_nop registerEffect_discard,
    fun b s => ⟨⟨rfl, rfl⟩, rfl, rfl⟩, readingForms_of_rows readRows_nop registerEffect_discard,
    fun a b s => ?stores⟩
  case implied =>
    simp only [List.mem_cons, Prod.mk.injEq, List.not_mem_nil, or_false] at hrow
    casesm* _ ∨ _, _ ∧ _
    all_goals subst i op; exact registerForm_nop rfl fun _ => rfl
  case stores =>
    have izy := resolveInstr_eq (m := .izy b) (by simp) 6 s
    have abx := resolveInstr_eq (m := .abx a) (by simp) 5 s
    have aby := resolveInstr_eq (m := .aby a) (by simp) 5 s
    exact ⟨⟨rfl, congrArg Host.Outcome.next izy⟩, ⟨rfl, congrArg Host.Outcome.next aby⟩,
      ⟨rfl, congrArg Host.Outcome.next abx⟩, ⟨rfl, congrArg Host.Outcome.next aby⟩,
      ⟨rfl, congrArg Host.Outcome.next aby⟩⟩

end Sys2Proof.Claims
end

section
/-! Shifts and rotates (spec/43_shift_rotate.md R190 to R194): the results in integers, and the flags. -/

namespace Sys2Proof.Claims

open Sys2Proof.Machine

/-- A shift writes C, N and Z and keeps the other flags (R194). -/
theorem setsCNZ_shiftFlags (out : Bool) (r p : Byte) : SetsCNZ out r p (shiftFlags out r p) := by
  have bits := getLsbD_shiftFlags out r p
  refine ⟨bits bitC, bits bitN, bits bitZ, fun k hC hN hZ => ?_⟩
  exact (bits k).trans ((if_neg hN).trans ((if_neg hZ).trans (if_neg hC)))

theorem toNat_shiftLeft_one (m : Byte) : (m <<< 1).toNat = 2 * (m.toNat % 128) := by
  rw [BitVec.toNat_shiftLeft, Nat.shiftLeft_eq]
  omega

theorem shiftsLeft_aslResult (m p : Byte) : ShiftsLeft m p (aslResult m p) := by
  rw [ShiftsLeft, aslResult, toNat_shiftLeft_one]
  omega

theorem shiftsRight_lsrResult (m p : Byte) : ShiftsRight m p (lsrResult m p) :=
  BitVec.toNat_ushiftRight m 1

/-- The old carry enters the bit the shift left empty, so the `or` is a sum (R192). -/
theorem rotatesLeft_rolResult (m p : Byte) : RotatesLeft m p (rolResult m p) := by
  have entering : (if flag bitC p then 0x01 else 0x00 : Byte).toNat = carryIn p := by
    unfold carryIn
    split <;> rfl
  have small := carryIn_le_one p
  have disjoint := Nat.two_pow_add_eq_or_of_lt (i := 1) (by omega : carryIn p < 2 ^ 1) (m.toNat % 128)
  rw [RotatesLeft, carry_eq_carryIn, rolResult, BitVec.toNat_or, toNat_shiftLeft_one, entering, ← disjoint]
  omega

/-- The old carry enters the bit the shift left empty, so the `or` is a sum (R193). -/
theorem rotatesRight_rorResult (m p : Byte) : RotatesRight m p (rorResult m p) := by
  have entering : (if flag bitC p then 0x80 else 0x00 : Byte).toNat = 2 ^ 7 * carryIn p := by
    unfold carryIn
    split <;> rfl
  have halved : (m >>> 1).toNat = m.toNat / 2 := shiftsRight_lsrResult m p
  have small : m.toNat / 2 < 2 ^ 7 := by omega
  have disjoint := Nat.two_pow_add_eq_or_of_lt small (carryIn p)
  rw [RotatesRight, carry_eq_carryIn, rorResult, BitVec.toNat_or, halved, entering, Nat.or_comm,
    ← disjoint]
  omega

end Sys2Proof.Claims
end

section
/-! The undocumented combinations (spec/46_undocumented.md R243 to R252). -/

namespace Sys2Proof.Claims

open Sys2Proof.Machine

/-! ## Flags -/

/-- Writing C first, then N and Z, is the shift's way of setting all three. -/
theorem SetsFlag.then_setsNZ {out : Bool} {v p q q' : Byte} (first : SetsFlag bitC out p q)
    (second : SetsNZ v q q') : SetsCNZ out v p q' := by
  obtain ⟨carry_out, kept⟩ := first
  obtain ⟨negative, zero, kept'⟩ := second
  refine ⟨(kept' bitC (by decide) (by decide)).trans carry_out, negative, zero, fun k hC hN hZ => ?_⟩
  exact (kept' k hN hZ).trans (kept k hC)

/-- Writing N and Z first, then C, sets all three. -/
theorem SetsNZ.then_setsFlag {out : Bool} {v p q q' : Byte} (first : SetsNZ v p q)
    (second : SetsFlag bitC out q q') : SetsCNZ out v p q' := by
  obtain ⟨negative, zero, kept⟩ := first
  obtain ⟨carry_out, kept'⟩ := second
  refine ⟨carry_out, (kept' bitN (by decide)).trans negative, (kept' bitZ (by decide)).trans zero,
    fun k hC hN hZ => ?_⟩
  exact (kept' k hC).trans (kept k hN hZ)

/-- ANC's flags: C is a copy of the N just set (R249). -/
theorem setsCNZ_setFlag_setNZ (v p : Byte) :
    SetsCNZ (v.getLsbD 7) v p (setFlag bitC (flag bitN (setNZ v p)) (setNZ v p)) := by
  obtain ⟨negative, -⟩ := setsNZ_setNZ v p
  rw [negative]
  exact (setsNZ_setNZ v p).then_setsFlag (setsFlag_setFlag (by decide) _ _)

/-- ARR writes C, V, N and Z and keeps the other flags (R251). -/
theorem setsCVNZ_arrFlags (r p : Byte) :
    SetsCVNZ (r.getLsbD 6) (r.getLsbD 6 ^^ r.getLsbD 5) r p (arrFlags r p) := by
  have bits := getLsbD_arrFlags r p
  refine ⟨bits bitC, bits bitV, bits bitN, bits bitZ, fun k hC hV hN hZ => ?_⟩
  exact (bits k).trans ((if_neg hV).trans ((if_neg hC).trans ((if_neg hN).trans (if_neg hZ))))

/-! ## What the operations do to the registers -/

/-- An operation that follows a write of C sees the new C (R245 to R248). -/
theorem registerEffect_after_setCarry (out : Bool) {op : State → State} {E : Cpu → Cpu → Prop}
    (h : RegisterEffect op E) : RegisterEffect (fun u => op (setCarry out u))
      fun c d => ∃ p, SetsFlag bitC out c.p p ∧ E { c with p := p } d := by
  obtain ⟨f, hf, hE⟩ := h
  exact ⟨fun c => f { c with p := setFlag bitC out c.p }, fun u => hf (setCarry out u),
    fun c => ⟨_, setsFlag_setFlag (by decide) out c.p, hE _⟩⟩

/-- A takes a combination of itself and the byte written, after the shift's carry (R245 to R247). -/
theorem registerEffect_combine (out : Bool) (g : Byte → Byte) :
    RegisterEffect (fun u => loadA (g u.cpu.a) (setCarry out u)) fun c => Combines out (g c.a) c := by
  refine (registerEffect_after_setCarry out (registerEffect_loadA fun c => g c.a)).mono ?_
  rintro c d ⟨q, shifted, p, rfl, loaded⟩
  exact ⟨p, rfl, shifted.then_setsNZ loaded⟩

theorem registerEffect_finSlo (m r : Byte) :
    RegisterEffect (finSlo m r) fun c => Combines (m.getLsbD 7) (c.a ||| r) c :=
  registerEffect_combine (outLeft m) (· ||| r)

theorem registerEffect_finRla (m r : Byte) :
    RegisterEffect (finRla m r) fun c => Combines (m.getLsbD 7) (c.a &&& r) c :=
  registerEffect_combine (outLeft m) (· &&& r)

theorem registerEffect_finSre (m r : Byte) :
    RegisterEffect (finSre m r) fun c => Combines (m.getLsbD 0) (c.a ^^^ r) c :=
  registerEffect_combine (outRight m) (· ^^^ r)

theorem registerEffect_finRra (m r : Byte) : RegisterEffect (finRra m r) (AddsRotated m r) :=
  registerEffect_after_setCarry (outRight m) (registerEffect_addCore r)

/-! ## Rows

All six operations have the same seven modes; at each of them the arm of `exec` is the class with the row's own
cycles. -/

theorem modifyRows_slo : ModifyRows .slo aslResult finSlo := fun m => by
  cases m with
  | zpy | ind => exact List.forall_mem_nil _
  | _ => exact List.forall_mem_singleton.mpr ⟨rfl, fun _ => rfl⟩

theorem modifyRows_rla : ModifyRows .rla rolResult finRla := fun m => by
  cases m with
  | zpy | ind => exact List.forall_mem_nil _
  | _ => exact List.forall_mem_singleton.mpr ⟨rfl, fun _ => rfl⟩

theorem modifyRows_sre : ModifyRows .sre lsrResult finSre := fun m => by
  cases m with
  | zpy | ind => exact List.forall_mem_nil _
  | _ => exact List.forall_mem_singleton.mpr ⟨rfl, fun _ => rfl⟩

theorem modifyRows_rra : ModifyRows .rra rorResult finRra := fun m => by
  cases m with
  | zpy | ind => exact List.forall_mem_nil _
  | _ => exact List.forall_mem_singleton.mpr ⟨rfl, fun _ => rfl⟩

theorem modifyRows_dcp : ModifyRows .dcp decResult finDcp := fun m => by
  cases m with
  | zpy | ind => exact List.forall_mem_nil _
  | _ => exact List.forall_mem_singleton.mpr ⟨rfl, fun _ => rfl⟩

theorem modifyRows_isc : ModifyRows .isc incResult finIsc := fun m => by
  cases m with
  | zpy | ind => exact List.forall_mem_nil _
  | _ => exact List.forall_mem_singleton.mpr ⟨rfl, fun _ => rfl⟩

/-! ## The obligations -/

/-- Settles O37: each is of class `rmw` with a shift's result, then the accumulator operation after a write of the
shift's carry. -/
theorem shiftAndAccumulate : Obligations.ShiftAndAccumulate :=
  ⟨modifyingForms_of_rows modifyRows_slo shiftsLeft_aslResult registerEffect_finSlo,
    modifyingForms_of_rows modifyRows_rla rotatesLeft_rolResult registerEffect_finRla,
    modifyingForms_of_rows modifyRows_sre shiftsRight_lsrResult registerEffect_finSre,
    modifyingForms_of_rows modifyRows_rra rotatesRight_rorResult registerEffect_finRra⟩

/-- Settles O38: each is of class `rmw` with DEC's or INC's result, then CMP or SBC with the byte written. -/
theorem countAndCombine : Obligations.CountAndCombine :=
  ⟨modifyingForms_of_rows modifyRows_dcp countsDown_decResult fun _ => registerEffect_opCmp,
    modifyingForms_of_rows modifyRows_isc countsUp_incResult fun _ => registerEffect_opSbc⟩

/-- Settles O39: ANC and ALR load A with the carry set after or before, ARR is a rotate with flags of its own, and
AXS takes its flags from a compare. -/
theorem immediateCombinations : Obligations.ImmediateCombinations := by
  refine fun b s => ⟨fun i op hrow => ?anc, ⟨rfl, _, _, _, rfl, ?alr, setsCNZ_shiftFlags _ _ _, rfl⟩,
    ⟨rfl, _, _, _, rfl, rotatesRight_rorResult _ _, setsCVNZ_arrFlags _ _, rfl⟩,
    ⟨rfl, _, _, _, rfl, ?axs, setsCNZ_compareFlags _ _ _, rfl⟩⟩
  case anc =>
    simp only [List.mem_cons, Prod.mk.injEq, List.not_mem_nil, or_false] at hrow
    obtain ⟨rfl, rfl⟩ | ⟨rfl, rfl⟩ := hrow
    all_goals exact ⟨rfl, _, _, rfl, setsCNZ_setFlag_setNZ _ _, rfl⟩
  case alr => exact shiftsRight_lsrResult _ s.cpu.p
  case axs => bv_omega

end Sys2Proof.Claims
end

section
/-! Words and their fields (R25): the bits and the value of a word with a field replaced, a bit turned over, or
parts put side by side. -/

namespace Sys2Proof.Claims

open Sys2Proof.Machine

/-- Side by side, the parts of a word are the digits of its value. -/
theorem toNat_append_eq_add {m n : Nat} (x : BitVec m) (y : BitVec n) :
    (x ++ y).toNat = 2 ^ n * x.toNat + y.toNat := by
  rw [BitVec.toNat_append, Nat.shiftLeft_eq, Nat.mul_comm, Nat.two_pow_add_eq_or_of_lt y.isLt]

/-- A field that lies inside the word: its own bits there, the word's elsewhere. -/
theorem getLsbD_putField_of_le {n k lo : Nat} (h : lo + k ≤ n) (v : BitVec n) (f : BitVec k) (j : Nat) :
    (putField v lo f).getLsbD j = if lo ≤ j ∧ j < lo + k then f.getLsbD (j - lo) else v.getLsbD j := by
  rw [getLsbD_putField]
  by_cases inside : j < n
  · simp [inside]
  · rw [if_neg (by omega), BitVec.getLsbD_of_ge v j (by omega), Bool.and_false]

/-- The value of a word with a field replaced: what stands above the field, the field, what stands below it. -/
theorem toNat_putField {n k lo : Nat} (h : lo + k ≤ n) (v : BitVec n) (f : BitVec k) :
    (putField v lo f).toNat = 2 ^ lo * (2 ^ k * (v.toNat / 2 ^ (lo + k)) + f.toNat) + v.toNat % 2 ^ lo := by
  refine Nat.eq_of_testBit_eq fun j => ?_
  rw [BitVec.testBit_toNat, getLsbD_putField_of_le h, Nat.testBit_two_pow_mul_add _ (Nat.mod_lt _ (Nat.two_pow_pos lo)),
    Nat.testBit_two_pow_mul_add _ f.isLt]
  by_cases below : j < lo
  · rw [if_neg (by omega), if_pos below, Nat.testBit_mod_two_pow, decide_eq_true below, Bool.true_and,
      BitVec.testBit_toNat]
  by_cases inField : j - lo < k
  · rw [if_pos (by omega), if_neg below, if_pos inField, BitVec.testBit_toNat]
  · rw [if_neg (by omega), if_neg below, if_neg inField, Nat.testBit_div_two_pow, ← BitVec.testBit_toNat]
    exact congrArg _ (by omega)

/-- Turning a bit over replaces the field that is this bit. -/
theorem xor_twoPow_eq_putField {n i : Nat} (h : i < n) (v : BitVec n) :
    v ^^^ BitVec.twoPow n i = putField v i (BitVec.ofBool !v.getLsbD i) := by
  refine BitVec.eq_of_getLsbD_eq fun j hj => ?_
  rw [getLsbD_putField_of_le h, BitVec.getLsbD_xor, BitVec.getLsbD_twoPow]
  by_cases hij : j = i
  · simp [hij, h]
  · rw [if_neg (by omega)]
    simp [h, Ne.symm hij]

theorem getLsbD_eq_decide {n : Nat} (v : BitVec n) (i : Nat) :
    v.getLsbD i = decide (v.toNat / 2 ^ i % 2 = 1) :=
  (BitVec.testBit_toNat v).symm.trans Nat.testBit_eq_decide_div_mod_eq

/-- Turning a bit over takes its weight away or adds it. -/
theorem toNat_xor_twoPow {n i : Nat} (h : i < n) (v : BitVec n) :
    (v ^^^ BitVec.twoPow n i).toNat = if v.getLsbD i then v.toNat - 2 ^ i else v.toNat + 2 ^ i := by
  have digits := Nat.div_add_mod v.toNat (2 ^ i)
  rw [xor_twoPow_eq_putField h, toNat_putField (by omega), getLsbD_eq_decide, pow_one, pow_succ,
    ← Nat.div_div_eq_div_mul]
  generalize v.toNat / 2 ^ i = q, v.toNat % 2 ^ i = r at *
  obtain even | odd := Nat.mod_two_eq_zero_or_one q
  · have half : 2 * (q / 2) = q := by omega
    rw [even, half, ← digits]
    change 2 ^ i * (q + 1) + r = 2 ^ i * q + r + 2 ^ i
    ring
  · have half : 2 * (q / 2) = q - 1 := by omega
    have weight := Nat.le_mul_of_pos_right (2 ^ i) (by omega : 0 < q)
    rw [odd, half, ← digits]
    change 2 ^ i * (q - 1) + r = 2 ^ i * q + r - 2 ^ i
    rw [Nat.mul_sub_one]
    omega

end Sys2Proof.Claims
end

section
/-! The registers of the picture unit as the CPU sees them (spec/61_picture_unit.md section 2). -/

namespace Sys2Proof.Claims

open Sys2Proof.Machine

/-! ## The address decoder at the eight registers (R47, R324, R325) -/

theorem busRead_statusRegister (s : State) : busRead 0x2002 s = readStatus s := rfl

theorem busRead_dataRegister (s : State) : busRead 0x2007 s = readData s := rfl

theorem busWrite_controlRegister (d : Byte) (s : State) :
    busWrite 0x2000 d s = { s with ppu := writeControl d s.ppu } := rfl

theorem busWrite_scrollRegister (d : Byte) (s : State) :
    busWrite 0x2005 d s = { s with ppu := writeScroll d s.ppu } := rfl

theorem busWrite_addressRegister (d : Byte) (s : State) :
    busWrite 0x2006 d s = { s with ppu := writeAddress d s.ppu } := rfl

theorem busWrite_dataRegister (d : Byte) (s : State) : busWrite 0x2007 d s = writeData d s := rfl

/-! ## Status, control and the NMI line -/

/-- The status byte bit by bit: the three flags, then the open-bus bits (R326). -/
theorem getLsbD_statusByte (cfg : Config) (p : Ppu) (k : Nat) :
    (statusByte cfg p).getLsbD k =
      if k = 7 then p.vblank else if k = 6 then p.spr0 else if k = 5 then p.ovf else cfg.ppuOpenBus.getLsbD k := by
  unfold statusByte
  rw [BitVec.getLsbD_append, BitVec.getLsbD_append, BitVec.getLsbD_append, BitVec.getLsbD_extractLsb', Nat.zero_add]
  by_cases openBus : k < 5
  · rw [if_pos openBus, if_neg (by omega), if_neg (by omega), if_neg (by omega), decide_eq_true openBus, Bool.true_and]
  by_cases inside : k < 8
  · interval_cases k <;> simp
  · rw [if_neg openBus, if_neg (by omega), if_neg (by omega), BitVec.getLsbD_of_ge _ _ (by omega), if_neg (by omega),
      if_neg (by omega), if_neg (by omega), BitVec.getLsbD_of_ge _ k (by omega)]

/-- Bit 7 of a byte is its half (R22, R336). -/
theorem getLsbD_seven (d : Byte) : d.getLsbD 7 = decide (0x80 ≤ d.toNat) := by
  rw [getLsbD_eq_decide]
  exact decide_eq_decide.mpr (by have := d.isLt; omega)

/-- The nametable bits of t after a write of the control register (R323). -/
theorem getLsbD_writeControl_t (d : Byte) (p : Ppu) (k : Nat) :
    (writeControl d p).t.getLsbD k =
      if k = 10 then d.getLsbD 0 else if k = 11 then d.getLsbD 1 else p.t.getLsbD k := by
  unfold writeControl
  rw [getLsbD_putField_of_le (by omega), BitVec.getLsbD_extractLsb']
  by_cases h10 : k = 10
  · simp [h10]
  by_cases h11 : k = 11
  · simp [h11]
  · rw [if_neg (by omega), if_neg h10, if_neg h11]

/-- Settles O43: the byte bit by bit, and the NMI line after the read and after a write of the control register. -/
theorem statusReadClearsVblankAndLatch : Obligations.StatusReadClearsVblankAndLatch := by
  intro s
  rw [busRead_statusRegister]
  refine ⟨fun k => ?byte, rfl, rfl, rfl, fun d => ?line⟩
  case byte => exact getLsbD_statusByte s.cfg s.ppu k
  case line =>
    rw [busWrite_controlRegister, ← getLsbD_seven]
    rfl

/-- Settles O44: t takes two bits of the control byte, and the sprite memory one cell. -/
theorem controlMaskAndOamWrites : Obligations.ControlMaskAndOamWrites := by
  intro d s
  refine ⟨⟨_, busWrite_controlRegister d s, getLsbD_writeControl_t d s.ppu⟩, rfl, rfl, fun sizedOam => ?_⟩
  exact ⟨_, rfl, sized_writeCell sizedOam s.ppu.oamAddr.isLt d,
    fun k => readCell_writeCell (sized_wf sizedOam) s.ppu.oamAddr.toNat k d⟩

/-! ## Scroll and address -/

/-- The first write of the scroll register (R330). -/
theorem writeScroll_first (d : Byte) {p : Ppu} (h : p.w = false) :
    writeScroll d p = { p with t := putField p.t 0 (d.extractLsb' 3 5), x := d.extractLsb' 0 3, w := true } := by
  simp [writeScroll, h]

/-- The second write of the scroll register (R330). -/
theorem writeScroll_second (d : Byte) {p : Ppu} (h : p.w = true) :
    writeScroll d p =
      { p with t := putField (putField p.t 12 (d.extractLsb' 0 3)) 5 (d.extractLsb' 3 5), w := false } := by
  simp [writeScroll, h]

/-- The first write of the address register (R331). -/
theorem writeAddress_first (d : Byte) {p : Ppu} (h : p.w = false) :
    writeAddress d p = { p with t := putField (putField p.t 8 (d.extractLsb' 0 6)) 14 0#1, w := true } := by
  simp [writeAddress, h]

/-- The second write of the address register (R331). -/
theorem writeAddress_second (d : Byte) {p : Ppu} (h : p.w = true) :
    writeAddress d p = { p with t := putField p.t 0 d, v := putField p.t 0 d, w := false } := by
  simp [writeAddress, h]

/-- Settles O45: each write replaces fields of t, which are read off bit by bit. -/
theorem scrollWritesFillT : Obligations.ScrollWritesFillT := by
  refine fun d s => ⟨fun hw => ⟨putField s.ppu.t 0 (d.extractLsb' 3 5), ?_, fun k => ?first⟩,
    fun hw => ⟨putField (putField s.ppu.t 12 (d.extractLsb' 0 3)) 5 (d.extractLsb' 3 5), ?_, fun k => ?second⟩⟩
  · rw [busWrite_scrollRegister, writeScroll_first d hw]
  case first =>
    rw [getLsbD_putField_of_le (by omega), BitVec.getLsbD_extractLsb']
    by_cases low : k < 5
    · rw [if_pos (by omega), if_pos low]
      simp [low, Nat.add_comm]
    · rw [if_neg (by omega), if_neg low]
  · rw [busWrite_scrollRegister, writeScroll_second d hw]
  case second =>
    rw [getLsbD_putField_of_le (by omega), getLsbD_putField_of_le (by omega), BitVec.getLsbD_extractLsb',
      BitVec.getLsbD_extractLsb']
    by_cases high : 12 ≤ k ∧ k < 15
    · rw [if_neg (by omega), if_pos (by omega), if_pos high, decide_eq_true (by omega), Bool.true_and, Nat.zero_add]
    by_cases middle : 5 ≤ k ∧ k < 10
    · rw [if_pos (by omega), if_neg high, if_pos middle, decide_eq_true (by omega), Bool.true_and]
      exact congrArg _ (by omega)
    · rw [if_neg (by omega), if_neg (by omega), if_neg high, if_neg middle]

/-- The 14-bit combination of a high and a low address byte (R331). -/
theorem toNat_addressPair (t : BitVec 15) (hi lo : Byte) :
    (putField (putField (putField t 8 (hi.extractLsb' 0 6)) 14 0#1) 0 lo).toNat
      = hi.toNat % 64 * 256 + lo.toNat := by
  rw [toNat_putField (by omega), toNat_putField (by omega), toNat_putField (by omega), BitVec.extractLsb'_toNat]
  simp only [BitVec.toNat_zero, Nat.shiftRight_zero]
  have := t.isLt
  omega

/-- Settles O46: the two writes bit by bit, and the pair in integers. -/
theorem addressPairSetsV : Obligations.AddressPairSetsV := by
  refine ⟨fun d s => ⟨fun hw => ⟨putField (putField s.ppu.t 8 (d.extractLsb' 0 6)) 14 0#1, ?_, fun k => ?high⟩,
    fun hw => ⟨putField s.ppu.t 0 d, ?_, fun k => ?low⟩⟩,
    fun hi lo s hw => ⟨_, ?pair, toNat_addressPair s.ppu.t hi lo⟩⟩
  · rw [busWrite_addressRegister, writeAddress_first d hw]
  case high =>
    rw [getLsbD_putField_of_le (by omega), getLsbD_putField_of_le (by omega), BitVec.getLsbD_extractLsb']
    by_cases field : 8 ≤ k ∧ k < 14
    · rw [if_neg (by omega), if_pos (by omega), if_pos field, decide_eq_true (by omega), Bool.true_and, Nat.zero_add]
    by_cases top : k = 14
    · simp [top]
    · rw [if_neg (by omega), if_neg (by omega), if_neg field, if_neg top]
  · rw [busWrite_addressRegister, writeAddress_second d hw]
  case low =>
    rw [getLsbD_putField_of_le (by omega)]
    simp
  case pair =>
    rw [busWrite_addressRegister, busWrite_addressRegister, writeAddress_first hi hw,
      writeAddress_second lo rfl, ← hw]

/-! ## Data reads -/

/-- The advance of v in integers (R335). -/
theorem toNat_incV_v (p : Ppu) :
    (incV p).v.toNat = (p.v.toNat + (if p.ctrl.getLsbD 2 then 32 else 1)) % 32768 := by
  unfold incV ctrlInc32
  cases p.ctrl.getLsbD 2 <;> exact BitVec.toNat_add _ _

theorem toNat_dataAddr (p : Ppu) : (dataAddr p).toNat = p.v.toNat % 0x4000 := BitVec.toNat_setWidth 14 p.v

/-- Settles O47: the immediate read, and the buffered one on either side of the palette's first address. -/
theorem dataReadAdvancesV : Obligations.DataReadAdvancesV := by
  refine fun s => ⟨(incV s.ppu).v, toNat_incV_v s.ppu, fun immediate => ?_, fun buffered below => ?_,
    fun buffered palette => ?_⟩
  · rw [busRead_dataRegister, readData, immediate]
    rfl
  · rw [← toNat_dataAddr] at below
    rw [busRead_dataRegister, readData, if_pos buffered, readDataBuffered, if_pos (by omega)]
    rfl
  · rw [← toNat_dataAddr] at palette
    rw [busRead_dataRegister, readData, if_pos buffered, readDataBuffered, if_neg (by omega)]
    rfl

/-! ## Data writes -/

/-- A nametable cell is a physical table and an offset in it (R317). -/
theorem ntIndex_eq (m : Mirroring) (a : VAddr) :
    ntIndex m a = physicalTable m (a.toNat / 0x400 % 4) * 0x400 + a.toNat % 0x400 := by
  have table : a.toNat / 0x400 % 4 < 4 := Nat.mod_lt _ (by decide)
  have vertical : ∀ t < 4, physicalTable .vertical t = t % 2 := by decide
  have horizontal : ∀ t < 4, physicalTable .horizontal t = t / 2 := by decide
  have fourScreen : ∀ t < 4, physicalTable .fourScreen t = t := by decide
  unfold ntIndex
  cases m with
  | horizontal => rw [horizontal _ table]; dsimp only; omega
  | vertical => rw [vertical _ table]; dsimp only; omega
  | fourScreen => rw [fourScreen _ table]; dsimp only; omega

theorem ntIndex_eq_iff (m : Mirroring) (a b : VAddr) :
    ntIndex m b = ntIndex m a ↔ physicalTable m (a.toNat / 0x400 % 4) = physicalTable m (b.toNat / 0x400 % 4)
      ∧ a.toNat % 0x400 = b.toNat % 0x400 := by
  rw [ntIndex_eq, ntIndex_eq]
  omega

/-- The palette repeats every 32 bytes, and four of its entries are two names of one cell (R318). -/
theorem palIndex_eq_iff (a b : VAddr) :
    palIndex b = palIndex a ↔ a.toNat % 32 = b.toNat % 32
      ∨ (a.toNat % 16 = b.toNat % 16 ∧ a.toNat % 4 = 0) := by
  unfold palIndex
  dsimp only
  split <;> split <;> omega

/-! The three regions of the memory map (R320, R321): where the addressed cell's aliases lie, and what a read after
the write sees. -/

section DataWrite

variable (m : Mirroring) {a : VAddr} (b : VAddr) (d : Byte) {s : State}

theorem sameCell_pattern_iff (h : a.toNat < 0x2000) : sameCell m a b ↔ b = a := by
  unfold sameCell
  bv_omega

theorem sameCell_nametable_iff (h : 0x2000 ≤ a.toNat) (h' : a.toNat < 0x3F00) :
    sameCell m a b ↔ 0x2000 ≤ b.toNat ∧ b.toNat < 0x3F00 ∧ ntIndex m b = ntIndex m a := by
  rw [ntIndex_eq_iff]
  unfold sameCell
  omega

theorem sameCell_palette_iff (h : 0x3F00 ≤ a.toNat) :
    sameCell m a b ↔ 0x3F00 ≤ b.toNat ∧ palIndex b = palIndex a := by
  rw [palIndex_eq_iff]
  unfold sameCell
  omega

theorem ppuRead_ppuWrite_pattern (hchr : Memory.wf s.cart.chr = true) (h : a.toNat < 0x2000) :
    ppuRead (ppuWrite a d s).cart (ppuWrite a d s).ppu b =
      if b = a ∧ s.cart.chrIsRam = true then d else ppuRead s.cart s.ppu b := by
  have write : ppuWrite a d s = { s with cart := chrWrite a d s.cart } := if_pos (by omega)
  rw [write]
  cases ram : s.cart.chrIsRam with
  | false => rw [chrWrite_chr_of_rom ram, if_neg fun e => Bool.noConfusion e.2]
  | true =>
    simp only [ppuRead, chrRead, chrWrite, ram, if_true, and_true, readCell_writeCell hchr, BitVec.toNat_inj]
    by_cases same : b = a
    · rw [same, if_pos (by omega), if_pos rfl, if_pos rfl]
    · simp only [if_neg same]

theorem ppuRead_ppuWrite_nametable (hnt : Memory.wf s.ppu.nt = true) (h : 0x2000 ≤ a.toNat) (h' : a.toNat < 0x3F00) :
    ppuRead (ppuWrite a d s).cart (ppuWrite a d s).ppu b =
      if 0x2000 ≤ b.toNat ∧ b.toNat < 0x3F00 ∧ ntIndex s.cart.mirroring b = ntIndex s.cart.mirroring a then d
      else ppuRead s.cart s.ppu b := by
  have write : ppuWrite a d s =
      { s with ppu := { s.ppu with nt := writeCell s.ppu.nt (ntIndex s.cart.mirroring a) d } } :=
    (if_neg (by omega)).trans (if_pos (by omega))
  simp only [write, ppuRead, readCell_writeCell hnt]
  split
  · rw [if_neg (by omega)]
  split
  · exact if_congr (by omega) rfl rfl
  · rw [if_neg (by omega)]

theorem ppuRead_ppuWrite_palette (hpal : Memory.wf s.ppu.pal = true) (h : 0x3F00 ≤ a.toNat) :
    ppuRead (ppuWrite a d s).cart (ppuWrite a d s).ppu b =
      if 0x3F00 ≤ b.toNat ∧ palIndex b = palIndex a then d else ppuRead s.cart s.ppu b := by
  have write : ppuWrite a d s = { s with ppu := { s.ppu with pal := writeCell s.ppu.pal (palIndex a) d } } :=
    (if_neg (by omega)).trans (if_neg (by omega))
  simp only [write, ppuRead, readCell_writeCell hpal]
  split
  · rw [if_neg (by omega)]
  split
  · rw [if_neg (by omega)]
  · exact if_congr (by omega) rfl rfl

/-- READ AFTER WRITE in the picture unit's memory: the cell's aliases read the byte, unless the cell is read-only,
and every other address reads as before (R321, R58). -/
theorem ppuRead_ppuWrite (hinv : State.inv s = true) :
    (sameCell s.cart.mirroring a b → (a.toNat < 0x2000 → s.cart.chrIsRam = true) →
        ppuRead (ppuWrite a d s).cart (ppuWrite a d s).ppu b = d)
      ∧ (¬ (sameCell s.cart.mirroring a b ∧ (a.toNat < 0x2000 → s.cart.chrIsRam = true)) →
        ppuRead (ppuWrite a d s).cart (ppuWrite a d s).ppu b = ppuRead s.cart s.ppu b) := by
  obtain ⟨-, -, ppu, cart⟩ := (inv_iff s).mp hinv
  obtain ⟨nt, pal, -⟩ := (ppuOk_iff _ _).mp ppu
  obtain ⟨-, chr⟩ := (cartOk_iff _).mp cart
  by_cases pattern : a.toNat < 0x2000
  · rw [sameCell_pattern_iff _ b pattern, ppuRead_ppuWrite_pattern b d (sized_wf chr) pattern]
    exact ⟨fun same ram => if_pos ⟨same, ram pattern⟩,
      fun other => if_neg fun h => other ⟨h.1, fun _ => h.2⟩⟩
  by_cases nametable : a.toNat < 0x3F00
  · rw [sameCell_nametable_iff _ b (by omega) nametable,
      ppuRead_ppuWrite_nametable b d (sized_wf nt) (by omega) nametable]
    exact ⟨fun same _ => if_pos same, fun other => if_neg fun h => other ⟨h, fun e => absurd e pattern⟩⟩
  · rw [sameCell_palette_iff _ b (by omega), ppuRead_ppuWrite_palette b d (sized_wf pal) (by omega)]
    exact ⟨fun same _ => if_pos same, fun other => if_neg fun h => other ⟨h, fun e => absurd e pattern⟩⟩

/-- A read does not see v. -/
theorem ppuRead_writeData :
    ppuRead (writeData d s).cart (writeData d s).ppu b
      = ppuRead (ppuWrite (dataAddr s.ppu) d s).cart (ppuWrite (dataAddr s.ppu) d s).ppu b :=
  ppuRead_congr rfl rfl rfl rfl b

end DataWrite

/-- What a data write can change (R333): one memory, and v. -/
theorem writeData_state (d : Byte) (s : State) :
    writeData d s = { s with
      cart := { s.cart with chr := (writeData d s).cart.chr }
      ppu := { s.ppu with
        nt := (writeData d s).ppu.nt, pal := (writeData d s).ppu.pal, v := (writeData d s).ppu.v } } := by
  unfold writeData ppuWrite chrWrite
  split
  · split <;> rfl
  split <;> rfl

theorem toNat_writeData_v (d : Byte) (s : State) :
    (writeData d s).ppu.v.toNat = (s.ppu.v.toNat + (if s.ppu.ctrl.getLsbD 2 then 32 else 1)) % 32768 := by
  have kept : (ppuWrite (dataAddr s.ppu) d s).ppu.v = s.ppu.v
      ∧ (ppuWrite (dataAddr s.ppu) d s).ppu.ctrl = s.ppu.ctrl := by
    unfold ppuWrite
    split
    · exact ⟨rfl, rfl⟩
    split <;> exact ⟨rfl, rfl⟩
  obtain ⟨v, ctrl⟩ := kept
  rw [writeData, toNat_incV_v, v, ctrl]

/-- A data write into a read-only pattern memory leaves the cartridge (R58). -/
theorem writeData_cart_of_rom {s : State} (h : (dataAddr s.ppu).toNat < 0x2000) (rom : s.cart.chrIsRam = false)
    (d : Byte) : (writeData d s).cart = s.cart := by
  have write : ppuWrite (dataAddr s.ppu) d s = { s with cart := chrWrite (dataAddr s.ppu) d s.cart } :=
    if_pos (by omega)
  rw [writeData, write]
  exact chrWrite_chr_of_rom rom _ d

/-- Settles O48: the read after the write is the one of the picture unit's memory, at the address v holds. -/
theorem dataWriteChangesOneCell : Obligations.DataWriteChangesOneCell := by
  intro d s b hinv
  obtain ⟨written, kept⟩ := ppuRead_ppuWrite (a := dataAddr s.ppu) b d hinv
  refine ⟨_, busWrite_dataRegister d s, ?_⟩
  rw [ppuRead_writeData, ← toNat_dataAddr]
  refine ⟨written, fun other => kept fun h => other h.1, fun pattern rom => ⟨writeData_cart_of_rom pattern rom d,
    kept fun h => ?readOnly⟩, writeData_state d s, toNat_writeData_v d s⟩
  case readOnly => exact Bool.noConfusion (rom.symm.trans (h.2 pattern))

end Sys2Proof.Claims
end

section
/-! The background pipeline (R350 to R353): the steps of v and the fetch addresses in integers, a dot's effect on
v, the latches and the shifters in closed form. -/

namespace Sys2Proof.Claims

open Sys2Proof.Machine

/-! ## The fields of v in integers (R25) -/

theorem toNat_coarseX (v : BitVec 15) : (coarseX v).toNat = v.toNat % 32 := by
  rw [coarseX, BitVec.extractLsb'_toNat, Nat.shiftRight_zero]

theorem toNat_coarseY (v : BitVec 15) : (coarseY v).toNat = v.toNat / 32 % 32 := by
  rw [coarseY, BitVec.extractLsb'_toNat, Nat.shiftRight_eq_div_pow]

theorem toNat_fineY (v : BitVec 15) : (fineY v).toNat = v.toNat / 0x1000 := by
  rw [fineY, BitVec.extractLsb'_toNat, Nat.shiftRight_eq_div_pow]
  have := v.isLt
  omega

theorem coarseX_eq_31_iff (v : BitVec 15) : coarseX v = 31 ↔ v.toNat % 32 = 31 := by
  rw [← toNat_coarseX]
  bv_omega

theorem coarseY_eq_29_iff (v : BitVec 15) : coarseY v = 29 ↔ v.toNat / 32 % 32 = 29 := by
  rw [← toNat_coarseY]
  bv_omega

theorem coarseY_eq_31_iff (v : BitVec 15) : coarseY v = 31 ↔ v.toNat / 32 % 32 = 31 := by
  rw [← toNat_coarseY]
  bv_omega

/-! ## The steps of v (R350) -/

theorem toNat_incCoarseX_of_lt {v : BitVec 15} (h : v.toNat % 32 < 31) : (incCoarseX v).toNat = v.toNat + 1 := by
  have no_wrap : coarseX v ≠ 31 := by
    rw [ne_eq, coarseX_eq_31_iff]
    omega
  rw [incCoarseX, if_neg no_wrap, toNat_putField (by omega), BitVec.toNat_add_of_lt ?_, toNat_coarseX]
  · change 2 ^ 0 * (2 ^ 5 * (v.toNat / 2 ^ (0 + 5)) + (v.toNat % 32 + 1)) + v.toNat % 2 ^ 0 = _
    omega
  · rw [toNat_coarseX]
    exact Nat.succ_lt_succ h

theorem toNat_incCoarseX_wrap {v : BitVec 15} (h : v.toNat % 32 = 31) :
    (incCoarseX v).toNat = if v.getLsbD 10 then v.toNat - 31 - 0x400 else v.toNat - 31 + 0x400 := by
  have cleared : (putField v 0 0#5).toNat = v.toNat - 31 := by
    rw [toNat_putField (by omega), BitVec.toNat_zero]
    omega
  have bit : (putField v 0 0#5).getLsbD 10 = v.getLsbD 10 := by
    rw [getLsbD_putField_of_le (by omega), if_neg (by omega)]
  rw [incCoarseX, if_pos ((coarseX_eq_31_iff v).mpr h), ← cleared, ← bit]
  exact toNat_xor_twoPow (i := 10) (by omega) (putField v 0 0#5)

theorem toNat_incY_of_lt {v : BitVec 15} (h : v.toNat / 0x1000 < 7) : (incY v).toNat = v.toNat + 0x1000 := by
  rw [← toNat_fineY] at h
  rw [incY, if_pos h, toNat_putField (by omega), BitVec.toNat_add_of_lt (Nat.succ_lt_succ h), toNat_fineY]
  change 2 ^ 12 * (2 ^ 3 * (v.toNat / 2 ^ (12 + 3)) + (v.toNat / 0x1000 + 1)) + v.toNat % 2 ^ 12 = _
  have := v.isLt
  omega

/-- Fine-Y wraps to 0, and coarse-Y decides the rest. -/
theorem incY_wrap {v : BitVec 15} (h : v.toNat / 0x1000 = 7) :
    incY v =
      if coarseY v = 29 then putField (putField v 12 0#3) 5 0#5 ^^^ 0x0800#15
      else if coarseY v = 31 then putField (putField v 12 0#3) 5 0#5
      else putField (putField v 12 0#3) 5 (coarseY v + 1) := by
  unfold incY
  rw [if_neg (by rw [toNat_fineY]; omega)]

/-- The word with fine-Y cleared and coarse-Y replaced. -/
theorem toNat_clearFineY_putCoarseY {v : BitVec 15} (h : v.toNat / 0x1000 = 7) (r : BitVec 5) :
    (putField (putField v 12 0#3) 5 r).toNat = v.toNat - 0x7000 - v.toNat / 32 % 32 * 32 + r.toNat * 32 := by
  rw [toNat_putField (by omega), toNat_putField (by omega), BitVec.toNat_zero]
  have := v.isLt
  omega

theorem toNat_incY_row29 {v : BitVec 15} (h : v.toNat / 0x1000 = 7) (row : v.toNat / 32 % 32 = 29) :
    (incY v).toNat =
      if v.getLsbD 11 then v.toNat - 0x7000 - 29 * 32 - 0x800 else v.toNat - 0x7000 - 29 * 32 + 0x800 := by
  have cleared : (putField (putField v 12 0#3) 5 0#5).toNat = v.toNat - 0x7000 - 29 * 32 := by
    rw [toNat_clearFineY_putCoarseY h, row, BitVec.toNat_zero]
    omega
  have bit : (putField (putField v 12 0#3) 5 0#5).getLsbD 11 = v.getLsbD 11 := by
    rw [getLsbD_putField_of_le (by omega), if_neg (by omega), getLsbD_putField_of_le (by omega), if_neg (by omega)]
  rw [incY_wrap h, if_pos ((coarseY_eq_29_iff v).mpr row), ← cleared, ← bit]
  exact toNat_xor_twoPow (i := 11) (by omega) (putField (putField v 12 0#3) 5 0#5)

theorem toNat_incY_row31 {v : BitVec 15} (h : v.toNat / 0x1000 = 7) (row : v.toNat / 32 % 32 = 31) :
    (incY v).toNat = v.toNat - 0x7000 - 31 * 32 := by
  have not29 : coarseY v ≠ 29 := by
    rw [ne_eq, coarseY_eq_29_iff]
    omega
  rw [incY_wrap h, if_neg not29, if_pos ((coarseY_eq_31_iff v).mpr row), toNat_clearFineY_putCoarseY h,
    row, BitVec.toNat_zero]
  omega

theorem toNat_incY_other_row {v : BitVec 15} (h : v.toNat / 0x1000 = 7) (row29 : v.toNat / 32 % 32 ≠ 29)
    (row31 : v.toNat / 32 % 32 ≠ 31) : (incY v).toNat = v.toNat - 0x7000 + 32 := by
  have not29 : coarseY v ≠ 29 := fun e => row29 ((coarseY_eq_29_iff v).mp e)
  have not31 : coarseY v ≠ 31 := fun e => row31 ((coarseY_eq_31_iff v).mp e)
  have below : (coarseY v).toNat + 1 < 2 ^ 5 := by
    rw [toNat_coarseY]
    omega
  rw [incY_wrap h, if_neg not29, if_neg not31, toNat_clearFineY_putCoarseY h,
    BitVec.toNat_add_of_lt below, toNat_coarseY]
  change v.toNat - 0x7000 - v.toNat / 32 % 32 * 32 + (v.toNat / 32 % 32 + 1) * 32 = _
  omega

/-! ## The copies from t (R350) -/

theorem getLsbD_copyX (v t : BitVec 15) (k : Nat) :
    (copyX v t).getLsbD k = if k < 5 ∨ k = 10 then t.getLsbD k else v.getLsbD k := by
  unfold copyX coarseX
  rw [getLsbD_putField_of_le (by omega), getLsbD_putField_of_le (by omega), BitVec.getLsbD_extractLsb',
    BitVec.getLsbD_extractLsb']
  by_cases table : k = 10
  · simp [table]
  by_cases column : k < 5
  · rw [if_neg (by omega), if_pos (by omega), if_pos (by omega), decide_eq_true (by omega), Bool.true_and,
      Nat.zero_add, Nat.sub_zero]
  · rw [if_neg (by omega), if_neg (by omega), if_neg (by omega)]

/-- Every bit that `CopyX()` does not take. -/
theorem getLsbD_copyY (v t : BitVec 15) (k : Nat) :
    (copyY v t).getLsbD k = if k < 5 ∨ k = 10 then v.getLsbD k else t.getLsbD k := by
  unfold copyY coarseY fineY
  rw [getLsbD_putField_of_le (by omega), getLsbD_putField_of_le (by omega), getLsbD_putField_of_le (by omega),
    BitVec.getLsbD_extractLsb', BitVec.getLsbD_extractLsb', BitVec.getLsbD_extractLsb']
  by_cases kept : k < 5 ∨ k = 10
  · rw [if_neg (by omega), if_neg (by omega), if_neg (by omega), if_pos kept]
  by_cases row : k < 10
  · rw [if_neg (by omega), if_neg (by omega), if_pos (by omega), if_neg kept, decide_eq_true (by omega), Bool.true_and]
    exact congrArg _ (by omega)
  by_cases table : k = 11
  · simp [table]
  by_cases fine : k < 15
  · rw [if_pos (by omega), if_neg kept, decide_eq_true (by omega), Bool.true_and]
    exact congrArg _ (by omega)
  · rw [if_neg (by omega), if_neg (by omega), if_neg (by omega), if_neg kept, BitVec.getLsbD_of_ge v k (by omega),
      BitVec.getLsbD_of_ge t k (by omega)]

/-! ## The fetch addresses (R351, R353, R363)

Each is a word whose parts stand side by side. -/

theorem tileAddr_eq_append (v : BitVec 15) : tileAddr v = 2#2 ++ v.extractLsb' 0 12 := by
  refine BitVec.eq_of_getLsbD_eq fun i hi => ?_
  simp only [tileAddr, BitVec.getLsbD_or, BitVec.getLsbD_and, BitVec.getLsbD_setWidth, BitVec.getLsbD_append,
    BitVec.getLsbD_extractLsb']
  interval_cases i <;> simp

theorem attrAddr_eq_append (v : BitVec 15) :
    attrAddr v = 2#2 ++ v.extractLsb' 10 2 ++ 15#4 ++ v.extractLsb' 7 3 ++ v.extractLsb' 2 3 := by
  refine BitVec.eq_of_getLsbD_eq fun i hi => ?_
  simp only [attrAddr, BitVec.getLsbD_or, BitVec.getLsbD_and, BitVec.getLsbD_setWidth, BitVec.getLsbD_append,
    BitVec.getLsbD_extractLsb', BitVec.getLsbD_ushiftRight]
  interval_cases i <;> simp

theorem attrShift_eq_append (v : BitVec 15) :
    attrShift v = (0#12 ++ v.extractLsb' 6 1 ++ v.extractLsb' 1 1 ++ 0#1).toNat := by
  refine congrArg BitVec.toNat (BitVec.eq_of_getLsbD_eq fun i hi => ?_)
  simp only [BitVec.getLsbD_or, BitVec.getLsbD_and, BitVec.getLsbD_append, BitVec.getLsbD_extractLsb',
    BitVec.getLsbD_ushiftRight]
  interval_cases i <;> simp

theorem patAddr_eq_append (p : Ppu) :
    patAddr p = 0#1 ++ BitVec.ofBool (ctrlBgTable p) ++ p.ntLatch ++ 0#1 ++ fineY p.v := by
  refine BitVec.eq_of_getLsbD_eq fun i hi => ?_
  simp only [patAddr, BitVec.getLsbD_or, BitVec.getLsbD_setWidth, BitVec.getLsbD_append, BitVec.getLsbD_shiftLeft]
  cases ctrlBgTable p <;> interval_cases i <;> simp

/-- A small number at any width is the small word widened. -/
theorem ofNat_eq_setWidth_ofNat {n k r : Nat} (h : r < 2 ^ k) :
    BitVec.ofNat n r = (BitVec.ofNat k r).setWidth n := by
  rw [← BitVec.toNat_inj, BitVec.toNat_setWidth, BitVec.toNat_ofNat, BitVec.toNat_ofNat, Nat.mod_eq_of_lt h]

theorem spriteAddr_eq_append_of_small {p : Ppu} (h : ctrlSpr16 p = false) (tile : Byte) {row : Nat} (hrow : row < 16) :
    spriteAddr p tile row = 0#1 ++ BitVec.ofBool (ctrlSprTable p) ++ tile ++ BitVec.ofNat 4 row := by
  refine BitVec.eq_of_getLsbD_eq fun i hi => ?_
  rw [spriteAddr, if_neg (by simp [h]), ofNat_eq_setWidth_ofNat (n := 14) (k := 4) hrow]
  simp only [BitVec.getLsbD_or, BitVec.getLsbD_setWidth, BitVec.getLsbD_append, BitVec.getLsbD_shiftLeft]
  generalize BitVec.ofNat 4 row = r
  cases ctrlSprTable p <;> interval_cases i <;> simp

theorem tilePair_eq_append (tile : Byte) (half : BitVec 1) :
    (tile &&& 0xFE).setWidth 14 + half.setWidth 14 = (tile.extractLsb' 1 7 ++ half).setWidth 14 := by
  rw [BitVec.add_eq_or_of_and_eq_zero]
  · refine BitVec.eq_of_getLsbD_eq fun i hi => ?_
    simp only [BitVec.getLsbD_or, BitVec.getLsbD_and, BitVec.getLsbD_setWidth, BitVec.getLsbD_append,
      BitVec.getLsbD_extractLsb']
    interval_cases i <;> simp
  · refine BitVec.eq_of_getLsbD_eq fun i hi => ?_
    simp only [BitVec.getLsbD_and, BitVec.getLsbD_setWidth]
    interval_cases i <;> simp

theorem spriteAddr_eq_append_of_tall {p : Ppu} (h : ctrlSpr16 p = true) (tile : Byte) {row : Nat} (hrow : row < 16) :
    spriteAddr p tile row = 0#1 ++ BitVec.ofBool (tile.getLsbD 0) ++ tile.extractLsb' 1 7 ++ BitVec.ofNat 1 (row / 8)
      ++ 0#1 ++ BitVec.ofNat 3 (row % 8) := by
  refine BitVec.eq_of_getLsbD_eq fun i hi => ?_
  rw [spriteAddr, if_pos h, ofNat_eq_setWidth_ofNat (n := 14) (r := row / 8) (k := 1) (by omega),
    ofNat_eq_setWidth_ofNat (n := 14) (r := row % 8) (k := 3) (by omega), tilePair_eq_append]
  simp only [BitVec.getLsbD_or, BitVec.getLsbD_setWidth, BitVec.getLsbD_append, BitVec.getLsbD_shiftLeft,
    BitVec.getLsbD_extractLsb']
  generalize BitVec.ofNat 1 (row / 8) = half
  generalize BitVec.ofNat 3 (row % 8) = r
  generalize tile.getLsbD 0 = table
  cases table <;> interval_cases i <;> simp

theorem toNat_tileAddr (v : BitVec 15) : (tileAddr v).toNat = 0x2000 + v.toNat % 0x1000 := by
  rw [tileAddr_eq_append, toNat_append_eq_add, BitVec.extractLsb'_toNat]
  rfl

theorem toNat_attrAddr (v : BitVec 15) :
    (attrAddr v).toNat
      = 0x23C0 + v.toNat / 0x400 % 4 * 0x400 + v.toNat / 32 % 32 / 4 * 8 + v.toNat % 32 / 4 := by
  simp only [attrAddr_eq_append, toNat_append_eq_add, BitVec.extractLsb'_toNat, Nat.shiftRight_eq_div_pow,
    BitVec.toNat_ofNat]
  omega

theorem attrShift_eq (v : BitVec 15) :
    attrShift v = v.toNat / 32 % 32 / 2 % 2 * 4 + v.toNat % 32 / 2 % 2 * 2 := by
  have row : v.toNat / 32 % 32 / 2 % 2 = v.toNat / 64 % 2 := by omega
  have column : v.toNat % 32 / 2 % 2 = v.toNat / 2 % 2 := by omega
  rw [row, column]
  simp only [attrShift_eq_append, toNat_append_eq_add, BitVec.extractLsb'_toNat, Nat.shiftRight_eq_div_pow,
    BitVec.toNat_ofNat]
  omega

theorem toNat_patAddr (p : Ppu) :
    (patAddr p).toNat
      = (if p.ctrl.getLsbD 4 then 0x1000 else 0) + 16 * p.ntLatch.toNat + p.v.toNat / 0x1000 := by
  simp only [patAddr_eq_append, toNat_append_eq_add, toNat_fineY, BitVec.toNat_ofNat, BitVec.toNat_ofBool, ctrlBgTable]
  cases p.ctrl.getLsbD 4 <;> simp <;> omega

theorem toNat_spriteAddr_of_small {p : Ppu} (h : p.ctrl.getLsbD 5 = false) (tile : Byte) {row : Nat} (hrow : row < 8) :
    (spriteAddr p tile row).toNat = (if p.ctrl.getLsbD 3 then 0x1000 else 0) + 16 * tile.toNat + row := by
  rw [spriteAddr_eq_append_of_small h tile (by omega)]
  simp only [toNat_append_eq_add, BitVec.toNat_ofNat, BitVec.toNat_ofBool, ctrlSprTable]
  cases p.ctrl.getLsbD 3 <;> simp <;> omega

theorem toNat_spriteAddr_of_tall {p : Ppu} (h : p.ctrl.getLsbD 5 = true) (tile : Byte) {row : Nat} (hrow : row < 16) :
    (spriteAddr p tile row).toNat
      = tile.toNat % 2 * 0x1000 + 16 * (tile.toNat / 2 * 2 + row / 8) + row % 8 := by
  have table : (tile.getLsbD 0).toNat = tile.toNat % 2 := by
    rw [getLsbD_eq_decide]
    obtain even | odd := Nat.mod_two_eq_zero_or_one tile.toNat
    · simp [even]
    · simp [odd]
  simp only [spriteAddr_eq_append_of_tall h tile hrow, toNat_append_eq_add, BitVec.extractLsb'_toNat,
    Nat.shiftRight_eq_div_pow, BitVec.toNat_ofNat, BitVec.toNat_ofBool, table]
  omega

/-! ## The shifters (R352) -/

/-- What a dot leaves in a shifter, from the dot, the shifter and the byte its low half may be reloaded with. -/
def shifter (dot : Nat) (r : BitVec 16) (low : Byte) : BitVec 16 :=
  let moved := if shiftDot dot then r <<< 1 else r
  if loadDot dot then reload moved low else moved

theorem reload_eq_putField (r : BitVec 16) (low : Byte) : reload r low = putField r 0 low := by
  simp [reload, putField]

theorem toNat_shifter (dot : Nat) (r : BitVec 16) (low : Byte) :
    (shifter dot r low).toNat = shiftedAt dot r.toNat low.toNat := by
  have moved : (r <<< 1).toNat = 2 * r.toNat % 65536 := by
    rw [BitVec.toNat_shiftLeft, Nat.shiftLeft_eq, Nat.mul_comm]
  have shifts : shiftDot dot = decide ((2 ≤ dot ∧ dot ≤ 257) ∨ (322 ≤ dot ∧ dot ≤ 337)) := by
    simp [shiftDot]
  have loads : loadDot dot = decide ((9 ≤ dot ∧ dot ≤ 257 ∧ dot % 8 = 1) ∨ dot = 329 ∨ dot = 337) := by
    simp [loadDot, Bool.or_assoc]
  unfold shifter shiftedAt
  simp only [shifts, loads, decide_eq_true_eq]
  split
  · rw [if_pos (by omega), reload_eq_putField, toNat_putField (by omega), moved]
    omega
  split
  · exact moved
  · rfl

/-- The shift and the reload of a dot (R351, R352). -/
def shiftAndLoad (p : Ppu) : Ppu :=
  { p with
    bgLo := shifter p.dot p.bgLo p.patLoLatch
    bgHi := shifter p.dot p.bgHi p.patHiLatch
    atLo := shifter p.dot p.atLo (spread (p.atLatch.getLsbD 0))
    atHi := shifter p.dot p.atHi (spread (p.atLatch.getLsbD 1)) }

/-- The fetch of a dot (R351). -/
def fetchTile (c : Cartridge) (p : Ppu) : Ppu :=
  { p with
    v := if fetchDot p.dot ∧ p.dot % 8 = 0 then incCoarseX p.v else p.v
    ntLatch := if fetchDot p.dot ∧ p.dot % 8 = 1 then ppuRead c p (tileAddr p.v) else p.ntLatch
    atLatch := if fetchDot p.dot ∧ p.dot % 8 = 3 then (ppuRead c p (attrAddr p.v) >>> attrShift p.v).setWidth 2
      else p.atLatch
    patLoLatch := if fetchDot p.dot ∧ p.dot % 8 = 5 then ppuRead c p (patAddr p) else p.patLoLatch
    patHiLatch := if fetchDot p.dot ∧ p.dot % 8 = 7 then ppuRead c p (patAddr p + 8) else p.patHiLatch }

/-! ## A dot of the background in closed form (R351) -/

theorem fetchDot_iff (dot : Nat) : fetchDot dot = true ↔ fetches dot := by
  unfold fetchDot fetches
  rw [Bool.or_eq_true, decide_eq_true_eq, decide_eq_true_eq]

theorem shiftAndLoad_eq (p : Ppu) :
    (if loadDot p.dot then loadShifters (if shiftDot p.dot then shiftBg p else p)
      else if shiftDot p.dot then shiftBg p else p) = shiftAndLoad p := by
  unfold shiftAndLoad shifter
  cases loadDot p.dot <;> cases shiftDot p.dot <;> rfl

/-- The phase of a fetching dot is its remainder by 8, less one. -/
theorem fetchTile_eq (c : Cartridge) (p : Ppu) :
    (if fetchDot p.dot then fetchPhase c ((p.dot - 1) % 8) p else p) = fetchTile c p := by
  unfold fetchTile
  cases fetching : fetchDot p.dot with
  | false => simp
  | true =>
    have positive : 1 ≤ p.dot := by
      have := (fetchDot_iff p.dot).mp fetching
      unfold fetches at this
      omega
    have phase_lt : (p.dot - 1) % 8 < 8 := Nat.mod_lt _ (by decide)
    rw [show p.dot % 8 = ((p.dot - 1) % 8 + 1) % 8 by omega]
    generalize (p.dot - 1) % 8 = phase at *
    interval_cases phase <;> simp [fetchPhase]

/-- A dot of the background is its shift and reload, then its fetch, then its move of v. -/
theorem backgroundDot_eq (c : Cartridge) (p : Ppu) :
    backgroundDot c p = scrollDot (fetchTile c (shiftAndLoad p)) := by
  rw [← fetchTile_eq, ← shiftAndLoad_eq]
  unfold backgroundDot
  cases loadDot p.dot <;> cases shiftDot p.dot <;> rfl

/-- The moves at dots 256, 257 and 280 to 304 are v's alone. -/
theorem scrollDot_eq (p : Ppu) : scrollDot p = { p with v := (scrollDot p).v } := by
  unfold scrollDot
  split
  · rfl
  split
  · rfl
  split <;> rfl

/-- What a dot of the background leaves beside v. -/
theorem backgroundDot_pipeline (c : Cartridge) (p : Ppu) :
    backgroundDot c p = { fetchTile c (shiftAndLoad p) with v := (backgroundDot c p).v } := by
  rw [backgroundDot_eq, scrollDot_eq]

theorem scrollDot_v (p : Ppu) :
    (scrollDot p).v =
      if p.dot = 256 then incY p.v
      else if p.dot = 257 then copyX p.v p.t
      else if p.scanline = 261 ∧ 280 ≤ p.dot ∧ p.dot ≤ 304 then copyY p.v p.t
      else p.v := by
  simp only [scrollDot, apply_ite Ppu.v]

/-- v after a dot of the background: the step to the next tile, then the move of the dot. -/
theorem backgroundDot_v (c : Cartridge) (p : Ppu) :
    (backgroundDot c p).v =
      if p.dot = 256 then incY (fetchTile c p).v
      else if p.dot = 257 then copyX (fetchTile c p).v p.t
      else if p.scanline = 261 ∧ 280 ≤ p.dot ∧ p.dot ≤ 304 then copyY (fetchTile c p).v p.t
      else (fetchTile c p).v := by
  rw [backgroundDot_eq]
  exact scrollDot_v (fetchTile c (shiftAndLoad p))

/-! ## The rest of a dot -/

/-- `q` is `p` but for what a dot does after the background: the flags, the position, the selected sprites and the
frame buffer. -/
def OutputFrame (p q : Ppu) : Prop :=
  q = { p with
    vblank := q.vblank, spr0 := q.spr0, ovf := q.ovf, scanline := q.scanline, dot := q.dot
    oddFrame := q.oddFrame, frame := q.frame, lineSprites := q.lineSprites, fb := q.fb }

namespace OutputFrame

theorem refl (p : Ppu) : OutputFrame p p := rfl

theorem trans {p q r : Ppu} (h : OutputFrame p q) (h' : OutputFrame q r) : OutputFrame p r := by
  unfold OutputFrame at *
  rw [h] at h'
  exact h'

theorem emitPixel (p : Ppu) : OutputFrame p (emitPixel p) := rfl

theorem spriteEvaluate (c : Cartridge) (p : Ppu) : OutputFrame p (spriteEvaluate c p) := by
  rw [OutputFrame, spriteEvaluate_frame]

theorem statusDot (p : Ppu) : OutputFrame p (statusDot p) := by
  unfold OutputFrame
  rw [statusDot_frame]

theorem advance (r : Bool) (p : Ppu) : OutputFrame p (advance r p) := by
  unfold OutputFrame
  rw [advance_frame]

end OutputFrame

/-- On a render line with rendering enabled the background pipeline is where `BackgroundDot()` leaves it (R340). -/
theorem outputFrame_ppuTick (c : Cartridge) {p : Ppu} (rendering : renderingEnabled p = true)
    (line : p.scanline ≤ 239 ∨ p.scanline = 261) : OutputFrame (backgroundDot c p) (ppuTick c p) := by
  have pixel : OutputFrame (backgroundDot c p)
      (if p.scanline ≤ 239 ∧ 1 ≤ p.dot ∧ p.dot ≤ 256 then emitPixel (backgroundDot c p)
        else backgroundDot c p) := by
    split
    · exact .emitPixel _
    · exact .refl _
  have sprites : OutputFrame (backgroundDot c p) (renderLineDot c p) := by
    rw [renderLineDot, if_pos rendering]
    split
    · exact pixel.trans (.spriteEvaluate c _)
    · exact pixel
  rw [ppuTick, if_pos line]
  exact (sprites.trans (.statusDot _)).trans (.advance _ _)

theorem ppuTick_v (c : Cartridge) {p : Ppu} (rendering : renderingEnabled p = true)
    (line : p.scanline ≤ 239 ∨ p.scanline = 261) : (ppuTick c p).v = (backgroundDot c p).v := by
  have frame := outputFrame_ppuTick c rendering line
  unfold OutputFrame at frame
  rw [frame]

/-- What a dot of a render line leaves in the shifters and the latches. -/
theorem ppuTick_pipeline (c : Cartridge) {p : Ppu} (rendering : renderingEnabled p = true)
    (line : p.scanline ≤ 239 ∨ p.scanline = 261) :
    OutputFrame { fetchTile c (shiftAndLoad p) with v := (backgroundDot c p).v } (ppuTick c p) :=
  backgroundDot_pipeline c p ▸ outputFrame_ppuTick c rendering line

/-! ## The obligations -/

theorem fetchTile_v_of_step (c : Cartridge) {p : Ppu} (h : fetches p.dot ∧ p.dot % 8 = 0) :
    (fetchTile c p).v = incCoarseX p.v := if_pos ⟨(fetchDot_iff _).mpr h.1, h.2⟩

theorem fetchTile_v_of_no_step (c : Cartridge) {p : Ppu} (h : ¬ (fetches p.dot ∧ p.dot % 8 = 0)) :
    (fetchTile c p).v = p.v := if_neg fun e => h ⟨(fetchDot_iff _).mp e.1, e.2⟩

/-- Settles O52: the steps of v by its fields, and which of them a dot makes. -/
theorem scrollSteps : Obligations.ScrollSteps := by
  refine ⟨fun v => ⟨toNat_incCoarseX_of_lt, toNat_incCoarseX_wrap, toNat_incY_of_lt, toNat_incY_row29,
    toNat_incY_row31, toNat_incY_other_row⟩, fun c p rendering line => ?_⟩
  rw [ppuTick_v c rendering line, backgroundDot_v]
  refine ⟨fun range eighth => ?tile, fun h256 => ?row, fun h257 k => ?column, fun pre h280 h304 k => ?field,
    fun n256 n257 nField nTile => ?kept⟩
  case tile => rw [if_neg (by omega), if_neg (by omega), if_neg (by omega),
    fetchTile_v_of_step c ⟨by unfold fetches; omega, eighth⟩]
  case row => rw [if_pos h256, fetchTile_v_of_step c ⟨by unfold fetches; omega, by omega⟩]
  case column => rw [if_neg (by omega), if_pos h257, fetchTile_v_of_no_step c (by unfold fetches; omega), getLsbD_copyX]
  case field => rw [if_neg (by omega), if_neg (by omega), if_pos ⟨pre, h280, h304⟩,
    fetchTile_v_of_no_step c (by unfold fetches; omega), getLsbD_copyY]
  case kept => rw [if_neg n256, if_neg n257, if_neg nField, fetchTile_v_of_no_step c (by unfold fetches; omega)]

/-- The two palette bits, picked out of their byte (R351, R353). -/
theorem toNat_attributeBits (b : Byte) (n : Nat) : ((b >>> n).setWidth 2).toNat = b.toNat / 2 ^ n % 4 := by
  rw [BitVec.toNat_setWidth, BitVec.toNat_ushiftRight, Nat.shiftRight_eq_div_pow]

theorem toNat_spread (b : Bool) : (spread b).toNat = if b then 255 else 0 := by
  cases b <;> rfl

/-- Settles O53: the addresses in integers, and the closed form of a dot field by field. -/
theorem fetchAddressesAndShifters : Obligations.FetchAddressesAndShifters := by
  refine ⟨fun p => ⟨toNat_tileAddr p.v, toNat_attrAddr p.v, attrShift_eq p.v, toNat_patAddr p,
    fun small tile row => toNat_spriteAddr_of_small small tile,
    fun tall tile row => toNat_spriteAddr_of_tall tall tile⟩, fun c p rendering line => ?_⟩
  have frame := ppuTick_pipeline c rendering line
  unfold OutputFrame at frame
  rw [frame]
  simp only [← fetchDot_iff]
  refine ⟨fun f m => if_pos ⟨f, m⟩, fun f m => ?palette, fun f m => if_pos ⟨f, m⟩, fun f m => if_pos ⟨f, m⟩,
    fun o => if_neg o, fun o => if_neg o, fun o => if_neg o, fun o => if_neg o,
    toNat_shifter _ _ _, toNat_shifter _ _ _, ?low, ?high⟩
  case palette =>
    exact (congrArg BitVec.toNat (if_pos ⟨f, m⟩)).trans (toNat_attributeBits _ _)
  case low => exact (toNat_shifter _ _ _).trans (congrArg _ (toNat_spread _))
  case high => exact (toNat_shifter _ _ _).trans (congrArg _ (toNat_spread _))

end Sys2Proof.Claims
end

section
/-! Pixels (R354, R364, R366, R368, R371): the two layers, the colour, and what a dot puts into the frame buffer. -/

namespace Sys2Proof.Claims

open Sys2Proof.Machine

/-! ## The two layers at a column -/

@[simp] theorem getLsbD_planePair_zero (hi lo : Bool) : (planePair hi lo).getLsbD 0 = lo := by
  cases hi <;> cases lo <;> rfl

@[simp] theorem getLsbD_planePair_one (hi lo : Bool) : (planePair hi lo).getLsbD 1 = hi := by
  cases hi <;> cases lo <;> rfl

/-- A layer is hidden at a column when it is off, or clipped at the left edge (R354, R364). -/
theorem layerHidden_iff (on left : Bool) (px : Nat) :
    (!on || (decide (px < 8) && !left)) = true ↔ on = false ∨ (px < 8 ∧ left = false) := by
  cases on <;> cases left <;> simp

theorem not_layerHidden {on left : Bool} {px : Nat} (hon : on = true) (h : 8 ≤ px ∨ left = true) :
    ¬ (!on || (decide (px < 8) && !left)) = true := by
  subst hon
  obtain right | rfl := h
  · simp [right]
  · simp

theorem bgPixel_hidden {p : Ppu} {px : Nat}
    (h : p.mask.getLsbD 3 = false ∨ (px < 8 ∧ p.mask.getLsbD 1 = false)) : bgPixel p px = (0, 0) :=
  if_pos ((layerHidden_iff _ _ _).mpr h)

theorem bgPixel_shown {p : Ppu} {px : Nat} (on : p.mask.getLsbD 3 = true) (h : 8 ≤ px ∨ p.mask.getLsbD 1 = true) :
    bgPixel p px =
      (planePair (p.bgHi.getLsbD (15 - p.x.toNat)) (p.bgLo.getLsbD (15 - p.x.toNat)),
        planePair (p.atHi.getLsbD (15 - p.x.toNat)) (p.atLo.getLsbD (15 - p.x.toNat))) :=
  if_neg (not_layerHidden on h)

theorem spritePixel_hidden {p : Ppu} {px : Nat}
    (h : p.mask.getLsbD 4 = false ∨ (px < 8 ∧ p.mask.getLsbD 2 = false)) : spritePixel p px = noSprite :=
  if_pos ((layerHidden_iff _ _ _).mpr h)

theorem spritePixel_shown {p : Ppu} {px : Nat} (on : p.mask.getLsbD 4 = true)
    (h : 8 ≤ px ∨ p.mask.getLsbD 2 = true) : spritePixel p px = firstOpaque px p.lineSprites :=
  if_neg (not_layerHidden on h)

/-! ## Sprites (R364) -/

theorem lineSpritePix_outside {s : LineSprite} {px : Nat} (h : px < s.x.toNat ∨ s.x.toNat + 7 < px) :
    lineSpritePix s px = 0 := if_neg (by omega)

theorem lineSpritePix_column (s : LineSprite) {o : Nat} (h : o ≤ 7) :
    lineSpritePix s (s.x.toNat + o) = planePair (s.hi.getLsbD (7 - o)) (s.lo.getLsbD (7 - o)) := by
  unfold lineSpritePix
  rw [if_pos (by omega), Nat.add_sub_cancel_left]

/-- Transparent sprites hide nothing of those after them. -/
theorem firstOpaque_append {px : Nat} {before : List LineSprite} (h : ∀ r ∈ before, lineSpritePix r px = 0)
    (rest : List LineSprite) : firstOpaque px (before ++ rest) = firstOpaque px rest := by
  induction before with
  | nil => rfl
  | cons r before ih =>
    obtain ⟨transparent, others⟩ := List.forall_mem_cons.mp h
    rw [List.cons_append, firstOpaque, if_neg (not_not_intro transparent), ih others]

theorem firstOpaque_transparent {px : Nat} {l : List LineSprite} (h : ∀ r ∈ l, lineSpritePix r px = 0) :
    firstOpaque px l = noSprite := by
  rw [← List.append_nil l, firstOpaque_append h]
  rfl

/-- The sprite palettes are the last four (R364). -/
theorem toNat_spritePalette (attr : Byte) :
    (4 + (attr.extractLsb' 0 2).setWidth 3 : BitVec 3).toNat = 4 + attr.toNat % 4 := by
  have : (attr.extractLsb' 0 2).toNat = attr.toNat % 4 := BitVec.extractLsb'_toNat 0 2 attr
  bv_omega

/-- Settles O56: a sprite's columns, and the search for the first opaque one past the transparent ones. -/
theorem firstOpaqueSpriteWins : Obligations.FirstOpaqueSpriteWins := by
  refine ⟨fun s px => ⟨lineSpritePix_outside, fun o ho hpx => ?column⟩, fun p px => ⟨fun hidden => ?hidden,
    fun on shown => ⟨fun transparent => ?none, fun before s after hlist transparent opaque_s => ?first⟩⟩⟩
  case column =>
    rw [hpx, lineSpritePix_column s ho]
    exact ⟨getLsbD_planePair_zero _ _, getLsbD_planePair_one _ _⟩
  case hidden =>
    rw [spritePixel_hidden hidden]
    rfl
  case none => rw [spritePixel_shown on shown, firstOpaque_transparent transparent]
  case first =>
    rw [spritePixel_shown on shown, hlist, firstOpaque_append transparent, firstOpaque, if_pos opaque_s]
    exact ⟨rfl, toNat_spritePalette s.attr, rfl, rfl⟩

/-! ## The pixel (R366, R368, R371) -/

/-- The palette entries a pixel can show, without the aliases of the other page (R318, R371). -/
theorem palIndex_pixel (col : BitVec 5) :
    palIndex (0x3F00#14 ||| col.setWidth 14) = if col.toNat % 4 = 0 then col.toNat % 16 else col.toNat := by
  have address : (0x3F00#14 ||| col.setWidth 14) = 0x1F8#9 ++ col := by
    revert col
    decide
  rw [address, palIndex, toNat_append_eq_add]
  have := col.isLt
  simp only [BitVec.toNat_ofNat]
  split <;> split <;> omega

theorem getLsbD_greyMask (grey : Bool) {k : Nat} (h : k < 6) :
    (if grey = true then 0x30#6 else 0x3F#6).getLsbD k = (decide (4 ≤ k) || !grey) := by
  cases grey <;> interval_cases k <;> rfl

theorem getLsbD_colour (p : Ppu) (col : BitVec 5) {k : Nat} (h : k < 6) :
    (colour p col).getLsbD k
      = ((readCell p.pal (if col.toNat % 4 = 0 then col.toNat % 16 else col.toNat)).getLsbD k
        && (decide (4 ≤ k) || !p.mask.getLsbD 0)) := by
  rw [colour, palIndex_pixel, BitVec.getLsbD_and, BitVec.getLsbD_setWidth, decide_eq_true h, Bool.true_and,
    getLsbD_greyMask _ h]
  rfl

/-- The priority of the layers: the backdrop, the sprite where it is opaque and in front or alone, the background
elsewhere (R366). -/
theorem pixelEntry_eq (bp bpal : BitVec 2) (sp : SpriteDot) :
    pixelEntry bp bpal sp =
      if bp = 0 ∧ sp.pix = 0 then 0
      else if sp.pix ≠ 0 ∧ (bp = 0 ∨ sp.behind = false) then sp.pal ++ sp.pix
      else 0#1 ++ bpal ++ bp := by
  unfold pixelEntry
  by_cases bg : bp = 0 <;> by_cases spr : sp.pix = 0
  · rw [if_pos bg, if_pos spr, if_pos ⟨bg, spr⟩]
  · rw [if_pos bg, if_neg spr, if_neg fun h => spr h.2, if_pos ⟨spr, .inl bg⟩]
  · rw [if_neg bg, if_pos spr, if_neg fun h => bg h.1, if_neg fun h => h.1 spr]
  · rw [if_neg bg, if_neg spr, if_neg (c := bp = 0 ∧ sp.pix = 0) fun h => bg h.1]
    cases sp.behind with
    | false => exact (if_pos ⟨spr, .inr rfl⟩).symm
    | true => exact (if_neg fun h => h.2.elim bg Bool.noConfusion).symm

theorem spriteZeroHit_eq (bp : BitVec 2) (sp : SpriteDot) {dot : Nat} (h : 1 ≤ dot) :
    spriteZeroHit bp sp (dot - 1) = decide (bp ≠ 0 ∧ sp.pix ≠ 0 ∧ sp.isZero = true ∧ dot ≠ 256) := by
  have column : dot - 1 ≠ 255 ↔ dot ≠ 256 := by omega
  simp [spriteZeroHit, column, Bool.and_assoc]

theorem readCell_emitPixel_fb {p : Ppu} (h : sized 61440 p.fb = true) (k : Nat) :
    readCell (emitPixel p).fb k =
      if k = 256 * p.scanline + (p.dot - 1) then
        colour p (pixelEntry (bgPixel p (p.dot - 1)).1 (bgPixel p (p.dot - 1)).2 (spritePixel p (p.dot - 1)))
      else readCell p.fb k := readCell_writeCell (sized_wf h) _ k _

/-! ## The dot -/

theorem ppuTick_fb (c : Cartridge) (p : Ppu) :
    (ppuTick c p).fb = (if p.scanline ≤ 239 ∨ p.scanline = 261 then renderLineDot c p else p).fb := by
  rw [ppuTick, advance_frame, statusDot_frame]

/-- The sprite-0 flag on a visible line: no dot there clears it (R346). -/
theorem ppuTick_spr0_visible (c : Cartridge) {p : Ppu} (h : p.scanline ≤ 239) :
    (ppuTick c p).spr0 = (renderLineDot c p).spr0 := by
  obtain ⟨-, line, -⟩ := renderLineDot_frame c p
  have quiet : statusDot (renderLineDot c p) = renderLineDot c p := by
    simp only [statusDot, vblankDot, clearDot, line]
    rw [if_neg (by simp; omega), if_neg (by simp; omega)]
  rw [ppuTick, if_pos (.inl h), quiet, advance_frame]

/-- A dot of a visible line that shows a pixel emits it after the background's part (R340). -/
theorem renderLineDot_pixel (c : Cartridge) {p : Ppu} (h : p.scanline ≤ 239 ∧ 1 ≤ p.dot ∧ p.dot ≤ 256) :
    renderLineDot c p = emitPixel (if p.mask.getLsbD 3 || p.mask.getLsbD 4 then backgroundDot c p else p) := by
  rw [renderLineDot, if_pos h, if_neg (by omega)]
  rfl

/-- No other dot writes the frame buffer. -/
theorem renderLineDot_fb_kept (c : Cartridge) {p : Ppu}
    (h : ¬ (p.scanline ≤ 239 ∧ 1 ≤ p.dot ∧ p.dot ≤ 256)) : (renderLineDot c p).fb = p.fb := by
  have background : (if renderingEnabled p then backgroundDot c p else p).fb = p.fb := by
    split
    · rw [backgroundDot_frame c p]
    · rfl
  rw [renderLineDot, if_neg h]
  split
  · rw [spriteEvaluate_frame]
    exact background
  · exact background

/-- Settles O55: the layers, the colour and the pixel, and which dots emit one. -/
theorem pixelPriority : Obligations.PixelPriority := by
  refine ⟨fun p px => ⟨bgPixel_hidden, fun on shown => ?background⟩, fun p col k => getLsbD_colour p col,
    fun p first sizedFb => ⟨_, _, _, rfl, rfl, rfl, fun k => ?cell, ?hit, emitPixel_frame p⟩,
    fun c p => ⟨fun visible first last => ⟨_, rfl, ?fb, ?spr0⟩, fun other => ?kept⟩⟩
  case background =>
    rw [bgPixel_shown on shown]
    exact ⟨getLsbD_planePair_zero _ _, getLsbD_planePair_one _ _, getLsbD_planePair_zero _ _,
      getLsbD_planePair_one _ _⟩
  case cell => rw [readCell_emitPixel_fb sizedFb, pixelEntry_eq]
  case hit => rw [← spriteZeroHit_eq _ _ first]; rfl
  case fb => rw [ppuTick_fb, if_pos (.inl visible), renderLineDot_pixel c ⟨visible, first, last⟩]
  case spr0 => rw [ppuTick_spr0_visible c visible, renderLineDot_pixel c ⟨visible, first, last⟩]
  case kept =>
    rw [ppuTick_fb]
    split
    · exact renderLineDot_fb_kept c other
    · rfl

end Sys2Proof.Claims
end

section
/-! The clock's events (spec/70_reset_and_hazards.md R390, R391): the frames its dots complete and its audio ticks,
told apart. -/

namespace Sys2Proof.Claims

open Sys2Proof.Machine

/-- Only the cycles tick, not the dots (R391). -/
theorem count_audioTick_clockEvents (c : Cartridge) (dots n : Nat) (p : Ppu) :
    (frameEvents c dots p ++ List.replicate n Event.audioTick).count Event.audioTick = n := by
  rw [List.count_append, frameEvents_ticks, List.count_replicate_self, Nat.zero_add]

/-- Without the audio ticks the frames of the dots are left, in their order. -/
theorem filter_ne_audioTick_clockEvents (c : Cartridge) (dots n : Nat) (p : Ppu) :
    (frameEvents c dots p ++ List.replicate n Event.audioTick).filter (fun x => decide (x ≠ Event.audioTick))
      = frameEvents c dots p := by
  have noTick : Event.audioTick ∉ frameEvents c dots p := List.count_eq_zero.mp (frameEvents_ticks c dots p)
  have frames : (frameEvents c dots p).filter (fun x => decide (x ≠ Event.audioTick)) = frameEvents c dots p :=
    List.filter_eq_self.mpr fun x hx => decide_eq_true (ne_of_mem_of_not_mem hx noTick)
  have ticks : (List.replicate n Event.audioTick).filter (fun x => decide (x ≠ Event.audioTick)) = [] :=
    List.filter_replicate_of_neg (by decide)
  rw [List.filter_append, frames, ticks, List.append_nil]

/-- The clock in closed form: it changes the cycle counter, the picture unit and the events (R390). -/
theorem clock_eq (s : State) :
    clock s = { s with
      cyc := s.cyc + s.cycles
      ppu := runDots s.cart (3 * s.cycles) s.ppu
      events := s.events ++ (frameEvents s.cart (3 * s.cycles) s.ppu ++ List.replicate s.cycles .audioTick) } := by
  rw [← List.append_assoc]
  rfl

/-- Settles O7: the added events are the frames of the dots, then one audio tick per cycle. -/
theorem clockRunsThreeDotsPerCycle : Obligations.ClockRunsThreeDotsPerCycle := fun s =>
  ⟨_, clock_eq s, count_audioTick_clockEvents _ _ _ _, filter_ne_audioTick_clockEvents _ _ _ _⟩

end Sys2Proof.Claims
end

section
/-! The encoding (spec/30_encoding.md R80 to R83, R91): the opcode matrix read forwards and backwards. -/

namespace Sys2Proof.Claims

open Sys2Proof.Machine

/-! ## Operands (R83) -/

@[simp] theorem operandLo_operandAddr (b1 b2 : Byte) : operandLo (operandAddr b1 b2) = b1 :=
  BitVec.extractLsb'_append_eq_right

@[simp] theorem operandHi_operandAddr (b1 b2 : Byte) : operandHi (operandAddr b1 b2) = b2 :=
  BitVec.extractLsb'_append_eq_left

@[simp] theorem operandAddr_operand (a : Addr) : operandAddr (operandLo a) (operandHi a) = a :=
  BitVec.extractLsb'_append_extractLsb' (w := 8) (len := 8)

/-- The operand bytes after opcode byte `op`: none, the byte `b1`, or the address `a`, as its format says (R81). -/
def operandBytes (op b1 : Byte) (a : Addr) : List Byte :=
  match opLength op with
  | 1 => []
  | 2 => [b1]
  | _ => [operandLo a, operandHi a]

/-! ## The matrix forwards and backwards (R86) -/

/-- Each of the 256 cells: the instruction it decodes to is encoded with the cell's own opcode byte. -/
theorem encode_decodeOp (op b1 b2 : Byte) :
    encode (decodeOp op b1 b2) = op :: operandBytes op b1 (operandAddr b1 b2) := by
  obtain ⟨n, bound, rfl⟩ : ∃ n < 256, op = BitVec.ofNat 8 n := ⟨op.toNat, op.isLt, by simp⟩
  interval_cases n <;> rfl

/-- The instruction `i` stands in the cell of its opcode byte, and its bytes are its operand. -/
def StandsInItsCell (i : Instr) : Prop :=
  decodeOp ((encode i).headD 0) ((encode i).getD 1 0) ((encode i).getD 2 0) = i

theorem standsInItsCell_of_bytes {i : Instr} {op : Byte} {tail : List Byte} (bytes : encode i = op :: tail)
    (cell : decodeOp op (tail.getD 0 0) (tail.getD 1 0) = i) : StandsInItsCell i := by
  rw [StandsInItsCell, bytes]
  exact cell

/-- An address operand comes back from its two bytes (R83). -/
theorem standsInItsCell_of_address {f : Addr → Instr} {a : Addr} {op : Byte}
    (bytes : encode (f a) = [op, operandLo a, operandHi a])
    (cell : ∀ b1 b2, decodeOp op b1 b2 = f (operandAddr b1 b2)) : StandsInItsCell (f a) :=
  standsInItsCell_of_bytes bytes ((cell _ _).trans (congrArg f (operandAddr_operand a)))

theorem standsInItsCell (i : Instr) : StandsInItsCell i := by
  cases i with
  | nopAbs0C a | oraAbs a | aslAbs a | sloAbs a | oraAby a | sloAby a | nopAbx1C a | oraAbx a | aslAbx a
  | sloAbx a | jsr a | bitAbs a | andAbs a | rolAbs a | rlaAbs a | andAby a | rlaAby a | nopAbx3C a | andAbx a
  | rolAbx a | rlaAbx a | jmpAbs a | eorAbs a | lsrAbs a | sreAbs a | eorAby a | sreAby a | nopAbx5C a | eorAbx a
  | lsrAbx a | sreAbx a | jmpInd a | adcAbs a | rorAbs a | rraAbs a | adcAby a | rraAby a | nopAbx7C a | adcAbx a
  | rorAbx a | rraAbx a | styAbs a | staAbs a | stxAbs a | saxAbs a | staAby a | tasAby a | shyAbx a | staAbx a
  | shxAby a | shaAby a | ldyAbs a | ldaAbs a | ldxAbs a | laxAbs a | ldaAby a | lasAby a | ldyAbx a | ldaAbx a
  | ldxAby a | laxAby a | cpyAbs a | cmpAbs a | decAbs a | dcpAbs a | cmpAby a | dcpAby a | nopAbxDC a | cmpAbx a
  | decAbx a | dcpAbx a | cpxAbs a | sbcAbs a | incAbs a | iscAbs a | sbcAby a | iscAby a | nopAbxFC a | sbcAbx a
  | incAbx a | iscAbx a => exact standsInItsCell_of_address rfl fun _ _ => rfl
  | _ => exact standsInItsCell_of_bytes rfl rfl

theorem encode_length (i : Instr) : (encode i).length = opLength ((encode i).headD 0) := by
  cases i <;> exact Laws.EncodedLength.of_bytes _ _ rfl rfl

/-! ## The decoder (R80, R82) -/

/-- As many bytes as the first of them asks for are one instruction, whatever follows them. -/
theorem decode_append {bytes : List Byte} (h : bytes.length = opLength (bytes.headD 0)) (rest : List Byte) :
    decode (bytes ++ rest) = .ok (decodeOp (bytes.headD 0) (bytes.getD 1 0) (bytes.getD 2 0), rest) := by
  obtain len | len | len := opLength_cases (bytes.headD 0) <;> rw [len] at h
  · obtain ⟨op, rfl⟩ := List.length_eq_one_iff.mp h
    simp_all [decode]
  · obtain ⟨op, b1, rfl⟩ := List.length_eq_two.mp h
    simp_all [decode]
  · obtain ⟨op, b1, b2, rfl⟩ := List.length_eq_three.mp h
    simp_all [decode]

/-- Settles O2: an instruction has the length its opcode byte asks for, and stands in that byte's cell. -/
theorem decodeOfEncode : Obligations.DecodeOfEncode := fun i rest _ =>
  (decode_append (encode_length i) rest).trans (congrArg (fun j => Except.ok (j, rest)) (standsInItsCell i))

/-- What the decoder reads off a string is what the encoder writes. -/
theorem eq_encode_append_of_decode {bytes rest : List Byte} {i : Instr} (decoded : decode bytes = .ok (i, rest)) :
    bytes = encode i ++ rest := by
  obtain _ | ⟨op, tail⟩ := bytes
  · cases decoded
  obtain len | len | len := opLength_cases op
  · simp only [decode, len, Except.ok.injEq, Prod.mk.injEq] at decoded
    obtain ⟨rfl, rfl⟩ := decoded
    simp [encode_decodeOp, operandBytes, len]
  · obtain _ | ⟨b1, tail⟩ := tail <;> simp only [decode, len, Except.ok.injEq, Prod.mk.injEq, reduceCtorEq] at decoded
    obtain ⟨rfl, rfl⟩ := decoded
    simp [encode_decodeOp, operandBytes, len]
  · obtain _ | ⟨b1, _ | ⟨b2, tail⟩⟩ := tail <;>
      simp only [decode, len, Except.ok.injEq, Prod.mk.injEq, reduceCtorEq] at decoded
    obtain ⟨rfl, rfl⟩ := decoded
    simp [encode_decodeOp, operandBytes, len]

/-- The decoder refuses a string exactly when it ends before the instruction does (R91). -/
theorem decode_cons_refused_iff (op : Byte) (tail : List Byte) :
    (∃ e, decode (op :: tail) = .error e) ↔ tail.length + 1 < opLength op := by
  obtain len | len | len := opLength_cases op
  · simp [decode, len]
  · obtain _ | ⟨b1, tail⟩ := tail <;> simp [decode, len]
  · obtain _ | ⟨b1, _ | ⟨b2, tail⟩⟩ := tail <;> simp [decode, len]

/-- Settles O3: a decoded string is the encoding of its instruction and a rest, and only a short one is refused. -/
theorem everyOpcodeByteDecodes : Obligations.EveryOpcodeByteDecodes := by
  refine ⟨fun bytes rest i => eq_encode_append_of_decode, fun bytes => ?_⟩
  cases bytes with
  | nil => exact ⟨fun _ => Nat.zero_lt_one, fun _ => ⟨_, rfl⟩⟩
  | cons op tail => exact decode_cons_refused_iff op tail

/-- Settles O1: the words are the encodings of those instructions, written out. -/
theorem matrixWordsDecode : Obligations.MatrixWordsDecode :=
  ⟨decodeOfEncode (.ldaImm 0x80) [] rfl, decodeOfEncode (.ldaAbx 0x31F6) [] rfl, decodeOfEncode (.staAbs 0x4014) [] rfl,
    decodeOfEncode .tsx [0xEA] rfl, decodeOfEncode (.adcIzy 0x86) [] rfl, decodeOfEncode (.bitZp 0x10) [] rfl,
    decodeOfEncode .rorAcc [] rfl, decodeOfEncode (.jmpInd 0x02FF) [] rfl, decodeOfEncode (.beq 0xFD) [] rfl,
    decodeOfEncode .plp [] rfl, decodeOfEncode (.laxZpy 0x10) [] rfl, decodeOfEncode (.shyAbx 0x2000) [] rfl⟩

/-! ## Fetching an encoded instruction (R84, R100) -/

/-- Bytes that stand in storage from PC on are fetched without any other effect than PC moving past them. -/
theorem fetchBytes_storage {bytes : List Byte} {s : State}
    (h : ∀ k, k < bytes.length → holdsCode (s.cpu.pc + BitVec.ofNat 16 k) = true
      ∧ (busRead (s.cpu.pc + BitVec.ofNat 16 k) s).1 = bytes.getD k 0) :
    fetchBytes bytes.length s
      = (bytes, { s with cpu := { s.cpu with pc := s.cpu.pc + BitVec.ofNat 16 bytes.length } }) := by
  induction bytes generalizing s with
  | nil => simp [fetchBytes]
  | cons b bytes ih =>
    have read : busRead s.cpu.pc s = (b, s) := by
      obtain ⟨storage, value⟩ := h 0 (Nat.zero_lt_succ _)
      simp only [BitVec.add_zero, List.getD_cons_zero] at storage value
      rw [busRead_storage storage] at value ⊢
      exact congrArg (·, s) value
    have next (k : Nat) : s.cpu.pc + 1 + BitVec.ofNat 16 k = s.cpu.pc + BitVec.ofNat 16 (k + 1) := by
      rw [← BitVec.ofNat_add_ofNat, add_assoc, add_comm (1 : Addr)]
      rfl
    have rest := ih (s := { s with cpu := { s.cpu with pc := s.cpu.pc + 1 } }) fun k hk => by
      obtain ⟨storage, value⟩ := h (k + 1) (Nat.succ_lt_succ hk)
      rw [next]
      refine ⟨storage, .trans ?_ value⟩
      exact busRead_val_congr _ rfl rfl rfl rfl rfl rfl
    rw [List.length_cons, fetchBytes, read, rest, next]

/-- The fetch gives the instruction encoded at PC. -/
theorem fetchInstr_of_encoded {i : Instr} {s : State}
    (h : ∀ k, k < (encode i).length → holdsCode (s.cpu.pc + BitVec.ofNat 16 k) = true
      ∧ (busRead (s.cpu.pc + BitVec.ofNat 16 k) s).1 = (encode i).getD k 0) :
    fetchInstr s = (i, { s with cpu := { s.cpu with pc := s.cpu.pc + BitVec.ofNat 16 (encode i).length } }) := by
  have opcode : opLength (busRead s.cpu.pc s).1 = (encode i).length := by
    have positive : 0 < (encode i).length := by
      rw [encode_length]
      obtain len | len | len := opLength_cases ((encode i).headD 0) <;> omega
    have first := (h 0 positive).2
    rw [BitVec.add_zero, ← List.headD_eq_getD] at first
    rw [first, encode_length]
  obtain ⟨decoded, state⟩ := decode_fetchBytes_eq_fetchInstr s
  rw [opcode, fetchBytes_storage h] at decoded state
  have whole := decodeOfEncode i [] rfl
  rw [List.append_nil] at whole
  rw [whole] at decoded
  exact Prod.ext (congrArg Prod.fst (Except.ok.inj decoded)).symm state.symm

/-- Settles O5: the quiet boundary fetches the instruction its bytes are, and executes it. -/
theorem stepRunsTheDecodedInstruction : Obligations.StepRunsTheDecodedInstruction := by
  intro s i hquiet encoded
  have fetched := fetchInstr_of_encoded (i := i) (s := atBoundary s) fun k hk => by
    obtain ⟨storage, value⟩ := encoded k hk
    refine ⟨storage, .trans ?_ value⟩
    exact busRead_val_congr _ rfl rfl rfl rfl rfl rfl
  obtain ⟨u, hexec, -⟩ := exec_moves (fetchInstr (atBoundary s)).1 (fetchInstr (atBoundary s)).2
  refine ⟨u, ?_, step_of_quiet hquiet hexec⟩
  rw [fetched] at hexec
  exact hexec

end Sys2Proof.Claims
end

section
/-! The driver step (spec/60_exceptions.md R285 to R288; spec/70_reset_and_hazards.md R380, R390): the invariant,
what a step without a reset keeps, reset, and the two interrupts. -/

namespace Sys2Proof.Claims

open Sys2Proof.Machine

/-! ## The invariant -/

/-- A reset leaves the picture unit of its own table, which its dots keep good. -/
theorem inv_performReset {s : State} (h : State.inv s = true) : State.inv (performReset s) = true := by
  obtain ⟨-, ram, -, cart⟩ := (inv_iff s).mp h
  have table : ppuOk s.cart.mirroring resetPpu = true := by
    rw [ppuOk_iff]
    exact ⟨rfl, rfl, rfl, rfl, by decide, by decide, by decide⟩
  have status : statusOk 0x24 = true := by decide
  rw [performReset_eq, inv_iff]
  exact ⟨status, ram, runDots_ok _ _ _ table, cart⟩

theorem inv_atBoundary {s : State} (h : State.inv s = true) : State.inv (atBoundary s) = true := h

/-- Settles O58: a reset sets a good state; every other step is moves from the boundary and the clock, and each of
these keeps the invariant. -/
theorem stepKeepsTheInvariant : Obligations.StepKeepsTheInvariant := by
  intro s t hinv hstep
  obtain ⟨b, rest, -, -, hreset⟩ | ⟨-, u, hmoves, hclock, -⟩ := step_cases s
  · cases hreset.symm.trans hstep
    exact inv_performReset (s := { beginStep s with inputs := rest, irqLine := b.irqLine }) hinv
  · cases hclock.symm.trans hstep
    rw [polled_eq_atBoundary] at hmoves
    exact clock_inv (hmoves.inv (inv_atBoundary hinv))

/-- Settles O57. -/
theorem invariantHoldsAtReset : Obligations.InvariantHoldsAtReset := by
  unfold Obligations.InvariantHoldsAtReset
  decide

/-! ## Every step -/

/-- Settles O8: a reset, an interrupt service or an instruction, each with its next state. -/
theorem everyStepHasANextState : Obligations.EveryStepHasANextState := by
  intro s
  obtain ⟨_, _, -, -, hreset⟩ | ⟨-, _, -, hclock, -⟩ := step_cases s
  · exact ⟨_, hreset⟩
  · exact ⟨_, hclock⟩

/-- A step without a reset is moves from the boundary and the clock. -/
theorem step_cases_of_noReset {s t : State} (h : noReset s) (hstep : step s = .next t) :
    ∃ u, Moves (atBoundary s) u ∧ t = clock u
      ∧ ((∃ k, u = enterInterrupt k (atBoundary s)) ∨ ∃ i v, Moves (atBoundary s) v ∧ exec i v = .next u) := by
  rw [← polled_eq_atBoundary]
  obtain ⟨b, rest, inputs, request, -⟩ | ⟨-, u, hmoves, hclock, origin⟩ := step_cases s
  · exact absurd (h b (by rw [inputs]; rfl)) (by simp [request])
  · cases hclock.symm.trans hstep
    exact ⟨u, hmoves, rfl, origin⟩

/-- Settles O13: the boundary writes the detector, and neither moves nor the clock do. -/
theorem edgeDetectorHoldsTheLastLevel : Obligations.EdgeDetectorHoldsTheLastLevel := by
  intro s t hnoReset hstep
  obtain ⟨u, hmoves, rfl, -⟩ := step_cases_of_noReset hnoReset hstep
  obtain ⟨-, -, -, -, detector, -⟩ := hmoves.fixed
  exact detector

/-! ## Interrupts -/

/-- A boundary that finds an interrupt due services it and runs the clock (R285, R288). -/
theorem step_of_due {s : State} {k : Interrupt} (h : noReset s)
    (due : (pollInterrupts (sampleInputs (beginStep s)).2).1 = some k) :
    step s = .next (clock (enterInterrupt k (atBoundary s))) := by
  rw [← polled_eq_atBoundary]
  simp [step, boundary, sampleInputs_resetRequest_of_noReset h, due, polled]

/-- Settles O11: an edge is due before anything else. -/
theorem nmiEdgeIsServiced : Obligations.NmiEdgeIsServiced := fun s hwf hnoReset edge =>
  ⟨_, enters_enterInterrupt .nmi (s := atBoundary s) hwf,
    step_of_due hnoReset (by rw [pollInterrupts_sampled_fst, edge]; rfl)⟩

/-- Settles O12: without an edge the unmasked line is due. -/
theorem irqIsServicedWhenNotMasked : Obligations.IrqIsServicedWhenNotMasked := fun s hwf hnoReset noEdge line unmasked =>
  ⟨_, enters_enterInterrupt .irq (s := atBoundary s) hwf,
    step_of_due hnoReset (by rw [pollInterrupts_sampled_fst, noEdge, line, unmasked]; rfl)⟩

/-! ## Reset -/

theorem resetPicture_resetPpu (d : Nat) : ResetPicture d { resetPpu with dot := d } := by
  simp [ResetPicture, resetPpu]

/-- The reset's own 21 dots of the default RESET_CYCLES only move the position. -/
theorem reset_default_dots (c : Cartridge) :
    runDots c 21 resetPpu = { resetPpu with dot := 21 } ∧ frameEvents c 21 resetPpu = [] :=
  reset_dots c (n := 21) (d := 0) (by decide)

/-- The reset vector lies in program memory (R289). -/
theorem vectorAt_reset (s : State) :
    vectorAt 0xFFFC s = readCell s.cart.prg (prgIndex s.cart 0xFFFD) ++ readCell s.cart.prg (prgIndex s.cart 0xFFFC) := by
  rw [vectorAt, busRead_prg (by decide), busRead_prg (by decide)]
  rfl

/-- Settles O9: the request is honoured before the poll, and the reset's closed form is the table. -/
theorem resetRequestGivesTheResetTable : Obligations.ResetRequestGivesTheResetTable := by
  intro s l rest inputs
  have honoured : step s = .next (performReset { beginStep s with inputs := rest, irqLine := l }) := by
    obtain ⟨b, rest', inputs', -, hreset⟩ | ⟨noRequest, -⟩ := step_cases s
    · cases inputs.symm.trans inputs'
      exact hreset
    · exact absurd (noRequest _ (by rw [inputs]; rfl)) (by simp)
  rw [performReset_eq] at honoured
  refine ⟨_, resetPpu, honoured, ⟨rfl, rfl, rfl, rfl, rfl, rfl, (vectorAt_reset s).symm⟩, resetPicture_resetPpu 0,
    rfl, rfl, rfl, rfl, rfl, ?ticks, ?frames, fun default => ?default, rfl, rfl⟩
  case ticks => exact count_audioTick_clockEvents s.cart _ s.cfg.resetCycles resetPpu
  case frames => exact filter_ne_audioTick_clockEvents s.cart _ s.cfg.resetCycles resetPpu
  case default =>
    obtain ⟨dots, frames⟩ := reset_default_dots s.cart
    simp [default, dots, frames, resetPicture_resetPpu]

/-- Settles O10. -/
theorem resetStateIsTheResetTable : Obligations.ResetStateIsTheResetTable :=
  ⟨⟨rfl, rfl, rfl, rfl, rfl, rfl, (vectorAt_reset State.reset).symm⟩, resetPicture_resetPpu 21, rfl, fun _ => rfl⟩

end Sys2Proof.Claims
end

section
/-! Returning (spec/44_control_flow.md R202, R203; spec/60_exceptions.md R291): what the entry or the call pushed comes
back off the stack. -/

namespace Sys2Proof.Claims

open Sys2Proof.Machine

/-! ## RTI in closed form -/

theorem opRti_eq (s : State) :
    opRti s = { s with
      cpu := { s.cpu with
        sp := s.cpu.sp + 3
        p := unpackP (readCell s.ram (stackAbove s.cpu.sp 1))
        pc := readCell s.ram (stackAbove s.cpu.sp 3) ++ readCell s.ram (stackAbove s.cpu.sp 2) } } := by
  simp only [opRti, returnFromInterrupt_eq, add_assoc]
  rfl

/-- Settles O15: the three pops in closed form. -/
theorem rtiRestoresStatusAndPc : Obligations.RtiRestoresStatusAndPc := fun s =>
  ⟨rfl, _, _, rfl, unpackedStatus_unpackP _, opRti_eq (setCycles 6 s)⟩

/-! ## Pulling what was pushed -/

/-- With SP `n` places down, the byte `j` places above it is the one pushed `n - j` places below the old SP. -/
theorem stackAbove_sub (sp : Byte) {n j : Nat} (h : j ≤ n) :
    stackAbove (sp - BitVec.ofNat 8 n) j = stackSlot sp (n - j) := by
  have split : BitVec.ofNat 8 n = BitVec.ofNat 8 (n - j) + BitVec.ofNat 8 j := by
    rw [BitVec.ofNat_add_ofNat, Nat.sub_add_cancel h]
  rw [stackAbove, stackSlot, split, ← sub_sub, sub_add_cancel]

/-- The bytes `HoldsPushed` lists, read from the lowered SP on. -/
theorem HoldsPushed.readCell_stackAbove {sp : Byte} {bytes : List Byte} {old new : Memory}
    (h : HoldsPushed sp bytes old new) {n j : Nat} (hj : 1 ≤ j) (hjn : j ≤ n) (hn : n = bytes.length) :
    readCell new (stackAbove (sp - BitVec.ofNat 8 n) j) = bytes.getD (n - j) 0 := by
  rw [stackAbove_sub sp hjn]
  exact h.2.1 (n - j) (by omega)

theorem hi_append_lo (a : Addr) : a.extractLsb' 8 8 ++ a.extractLsb' 0 8 = a :=
  BitVec.extractLsb'_append_extractLsb' (w := 8) (len := 8)

/-- Packing and unpacking loses only bits 4 and 5, and these are fixed in a register of the right form (R15). -/
theorem eq_of_packed_unpacked {b : Bool} {p st q : Byte} (ok : statusOk p = true) (packed : PackedStatus b p st)
    (unpacked : UnpackedStatus st q) : q = p := by
  obtain ⟨breakClear, unusedSet, kept⟩ := unpacked
  have form : flag bitU p = true ∧ flag bitB p = false := by simpa [statusOk] using ok
  refine BitVec.eq_of_getLsbD_eq fun k _ => ?_
  by_cases hB : k = bitB
  · exact hB ▸ breakClear.trans form.2.symm
  by_cases hU : k = bitU
  · exact hU ▸ unusedSet.trans form.1.symm
  · exact (kept k hB hU).trans (packed.2.2 k hB hU)

/-- Settles O16: the three pushed bytes are the three popped ones. -/
theorem entryThenRtiRestoresTheCpu : Obligations.EntryThenRtiRestoresTheCpu := by
  intro k s hinv
  obtain ⟨ok, ram, -⟩ := (inv_iff s).mp hinv
  obtain ⟨st, p, m, packed, -, pushed, entered⟩ := enters_enterInterrupt k (sized_wf ram)
  obtain ⟨-, t, q, hrti, unpacked, returned⟩ := rtiRestoresStatusAndPc (enterInterrupt k s)
  refine ⟨t, hrti, ?_⟩
  rw [entered] at unpacked returned
  have low : readCell m (stackAbove (s.cpu.sp - 3) 1) = st := pushed.readCell_stackAbove (by decide) (by decide) rfl
  have mid := pushed.readCell_stackAbove (n := 3) (j := 2) (by decide) (by decide) rfl
  have high := pushed.readCell_stackAbove (n := 3) (j := 3) (by decide) (by decide) rfl
  have status : q = s.cpu.p := eq_of_packed_unpacked ok packed (low ▸ unpacked)
  have pc : readCell m (stackAbove (s.cpu.sp - 3) 3) ++ readCell m (stackAbove (s.cpu.sp - 3) 2)
      = returnAddr k s.cpu.pc := (congrArg₂ _ high mid).trans (hi_append_lo _)
  have sp : s.cpu.sp - 3 + 3 = s.cpu.sp := sub_add_cancel _ _
  rw [returned, status]
  dsimp only
  rw [sp, pc]

/-- Settles O31: RTS pops the address JSR pushed, and adds the one that JSR took off. -/
theorem jsrThenRtsReturns : Obligations.JsrThenRtsReturns := by
  intro a s hwf
  obtain ⟨-, u, m, hjsr, pushed, rfl⟩ := subroutineCallAndReturn.1 a s hwf
  obtain ⟨-, t, hrts, rfl⟩ := subroutineCallAndReturn.2 _
  refine ⟨_, _, hjsr, hrts, ?_⟩
  have low := pushed.readCell_stackAbove (n := 2) (j := 1) (by decide) (by decide) rfl
  have high := pushed.readCell_stackAbove (n := 2) (j := 2) (by decide) (by decide) rfl
  have pc : readCell m (stackAbove (s.cpu.sp - 2) 2) ++ readCell m (stackAbove (s.cpu.sp - 2) 1) = s.cpu.pc - 1 :=
    (congrArg₂ _ high low).trans (hi_append_lo _)
  have sp : s.cpu.sp - 2 + 2 = s.cpu.sp := sub_add_cancel _ _
  dsimp only
  rw [sp, pc, sub_add_cancel]

end Sys2Proof.Claims
end

section
/-! The addressing modes in integers (spec/40_step_addressing.md R109 to R117). -/

namespace Sys2Proof.Claims

open Sys2Proof.Machine

/-- The second byte of a page-0 pointer, wrapping in the page (R116, R117). -/
theorem toNat_add_one (b : Byte) : (b + 1).toNat = (b.toNat + 1) % 256 := BitVec.toNat_add b 1

theorem indexed_eq (base : Addr) (i : Byte) (s : State) :
    (indexed base i s).ea.toNat = (base.toNat + i.toNat) % 65536
      ∧ (indexed base i s).crossed = decide ((indexed base i s).ea.toNat / 256 ≠ base.toNat / 256) := by
  refine ⟨?_, pageCross_eq_decide _ _⟩
  have := i.isLt
  rw [indexed, BitVec.toNat_add, BitVec.toNat_setWidth]
  omega

/-- Settles O17: each mode's closed form, with the pointers of page 0 read from RAM. -/
theorem addressingModesResolve : Obligations.AddressingModesResolve := by
  intro s
  refine ⟨zeroPage_toNat, fun b => ?zpx, fun b => ?zpy, fun _ => rfl, fun a => indexed_eq a s.cpu.x s,
    fun a => indexed_eq a s.cpu.y s, fun b => ?izx, fun b => ?izy, fun p => ?ind, fun b a m hm => ?noCross,
    fun m notInd => resolve_state notInd s⟩
  case zpx => rw [resolve, zeroPage_toNat, BitVec.toNat_add]
  case zpy => rw [resolve, zeroPage_toNat, BitVec.toNat_add]
  case izx =>
    have z := BitVec.toNat_add b s.cpu.x
    have next : (b + s.cpu.x + 1).toNat = (b.toNat + s.cpu.x.toNat + 1) % 256 := by
      rw [toNat_add_one, z, Nat.mod_add_mod]
    rw [resolve, readPair_zeroPage, toNat_append_eq_add, z, next]
    exact Nat.add_comm _ _
  case izy =>
    have entry := indexed_eq (readCell s.ram (b + 1).toNat ++ readCell s.ram b.toNat) s.cpu.y s
    rw [toNat_append_eq_add, toNat_add_one] at entry
    rw [resolve, readPair_zeroPage, toNat_add_one]
    exact ⟨_, Nat.add_comm _ _, entry⟩
  case ind =>
    refine ⟨nextInPage p, nextInPage_toNat p, ?_, rfl⟩
    rw [resolve, readPair, toNat_append_eq_add]
    omega
  case noCross =>
    simp only [List.mem_cons, List.not_mem_nil, or_false] at hm
    obtain rfl | rfl | rfl | rfl | rfl | rfl := hm <;> rfl

end Sys2Proof.Claims
end

section
/-! The shifts (spec/43_shift_rotate.md R190 to R194) on the accumulator and on memory. -/

namespace Sys2Proof.Claims

open Sys2Proof.Machine

/-! ## What the operations do to the registers -/

theorem registerEffect_shiftA {R : Byte → Byte → Byte → Prop} {res : Byte → Byte → Byte} (hres : ∀ m p, R m p (res m p))
    (out : Byte → Bool) : RegisterEffect (shiftA res out) (ShiftsA R out) :=
  ⟨fun c => { c with a := res c.a c.p, p := shiftFlags (out c.a) (res c.a c.p) c.p }, fun _ => rfl,
    fun c => ⟨_, _, hres c.a c.p, rfl, setsCNZ_shiftFlags _ _ _⟩⟩

theorem registerEffect_finLeft (m r : Byte) : RegisterEffect (finLeft m r) (FlagsLeft m r) :=
  ⟨fun c => { c with p := shiftFlags (outLeft m) r c.p }, fun _ => rfl, fun _ => ⟨_, rfl, setsCNZ_shiftFlags _ _ _⟩⟩

theorem registerEffect_finRight (m r : Byte) : RegisterEffect (finRight m r) (FlagsRight m r) :=
  ⟨fun c => { c with p := shiftFlags (outRight m) r c.p }, fun _ => rfl, fun _ => ⟨_, rfl, setsCNZ_shiftFlags _ _ _⟩⟩

/-! ## Rows -/

theorem modifyRows_asl : ModifyRows .asl aslResult finLeft := fun m => by
  cases m with
  | zp | zpx | abs | abx => exact List.forall_mem_singleton.mpr ⟨rfl, fun _ => rfl⟩
  | _ => exact List.forall_mem_nil _

theorem modifyRows_lsr : ModifyRows .lsr lsrResult finRight := fun m => by
  cases m with
  | zp | zpx | abs | abx => exact List.forall_mem_singleton.mpr ⟨rfl, fun _ => rfl⟩
  | _ => exact List.forall_mem_nil _

theorem modifyRows_rol : ModifyRows .rol rolResult finLeft := fun m => by
  cases m with
  | zp | zpx | abs | abx => exact List.forall_mem_singleton.mpr ⟨rfl, fun _ => rfl⟩
  | _ => exact List.forall_mem_nil _

theorem modifyRows_ror : ModifyRows .ror rorResult finRight := fun m => by
  cases m with
  | zp | zpx | abs | abx => exact List.forall_mem_singleton.mpr ⟨rfl, fun _ => rfl⟩
  | _ => exact List.forall_mem_nil _

/-! ## The obligations -/

/-- Settles O27: the four accumulator forms are one operation with four results. -/
theorem shiftsOfTheAccumulator : Obligations.ShiftsOfTheAccumulator :=
  ⟨registerForm_of_runs ⟨rfl, fun _ => rfl⟩ (registerEffect_shiftA shiftsLeft_aslResult outLeft),
    registerForm_of_runs ⟨rfl, fun _ => rfl⟩ (registerEffect_shiftA shiftsRight_lsrResult outRight),
    registerForm_of_runs ⟨rfl, fun _ => rfl⟩ (registerEffect_shiftA rotatesLeft_rolResult outLeft),
    registerForm_of_runs ⟨rfl, fun _ => rfl⟩ (registerEffect_shiftA rotatesRight_rorResult outRight)⟩

/-- Settles O28: each row is of class `rmw`, with its result in integers and its flags. -/
theorem shiftsOfMemory : Obligations.ShiftsOfMemory :=
  ⟨modifyingForms_of_rows modifyRows_asl shiftsLeft_aslResult registerEffect_finLeft,
    modifyingForms_of_rows modifyRows_lsr shiftsRight_lsrResult registerEffect_finRight,
    modifyingForms_of_rows modifyRows_rol rotatesLeft_rolResult registerEffect_finLeft,
    modifyingForms_of_rows modifyRows_ror rotatesRight_rorResult registerEffect_finRight⟩

end Sys2Proof.Claims
end

section
/-! The bus map (spec/20_memory.md R42, R43) range by range, and the sprite DMA controller (R60 to R62). -/

namespace Sys2Proof.Claims

open Sys2Proof.Machine

/-! ## The register window (R47) -/

/-- The window's register, by the address mod 8. -/
theorem setWidth_three (a : Addr) : a.setWidth 3 = BitVec.ofNat 3 (a.toNat % 8) := by
  bv_omega

section Window

variable {a : Addr} (h : 0x2000 ≤ a.toNat) (h' : a.toNat < 0x4000)

include h h'

theorem busRead_window (s : State) : busRead a s = ppuRegRead (BitVec.ofNat 3 (a.toNat % 8)) s := by
  rw [busRead, if_neg (by omega), if_pos (by omega), setWidth_three]

theorem busWrite_window (v : Byte) (s : State) :
    busWrite a v s = ppuRegWrite (BitVec.ofNat 3 (a.toNat % 8)) v s := by
  rw [busWrite, if_neg (by omega), if_pos (by omega), setWidth_three]

omit h h' in
theorem toNat_firstMirror (n : Nat) : (BitVec.ofNat 16 (0x2000 + n % 8)).toNat = 0x2000 + n % 8 := by
  rw [BitVec.toNat_ofNat]
  omega

theorem busRead_window_mirror (s : State) : busRead a s = busRead (BitVec.ofNat 16 (0x2000 + a.toNat % 8)) s := by
  have low := toNat_firstMirror a.toNat
  rw [busRead_window h h', busRead_window (by omega) (by omega), low]
  exact congrArg (ppuRegRead · s) (congrArg _ (by omega))

theorem busWrite_window_mirror (v : Byte) (s : State) :
    busWrite a v s = busWrite (BitVec.ofNat 16 (0x2000 + a.toNat % 8)) v s := by
  have low := toNat_firstMirror a.toNat
  rw [busWrite_window h h', busWrite_window (by omega) (by omega), low]
  exact congrArg (ppuRegWrite · v s) (congrArg _ (by omega))

end Window

/-! ## The external window (R52) -/

theorem busRead_external {a : Addr} (h : 0x4000 ≤ a.toNat) (h' : a.toNat < 0x4020) (s : State) :
    busRead a s = extRead a s := by
  rw [busRead, if_neg (by omega), if_neg (by omega), if_pos (by omega)]

theorem extRead_state (a : Addr) (s : State) :
    (extRead a s).2 = { s with extIn := s.extIn.tail, extReads := s.extReads + 1 } := by
  rcases s with ⟨_, _, _, _, _, _, _, _, _, _ | _, _, _⟩ <;> rfl

theorem extRead_listed {a : Addr} {s : State} {b : Byte} (h : s.extIn.head? = some b) : (extRead a s).1 = b := by
  obtain ⟨rest, listed⟩ := List.head?_eq_some_iff.mp h
  simp [extRead, listed]

theorem busWrite_external {a : Addr} (h : 0x4000 ≤ a.toNat) (h' : a.toNat < 0x4020) (notDma : a.toNat ≠ 0x4014)
    (v : Byte) (s : State) : busWrite a v s = extWrite a v s := by
  rw [busWrite, if_neg (by omega), if_neg (by omega), if_neg notDma, if_pos (by omega)]

/-! ## The maps -/

/-- Settles O40: one range of the decoder after the other. -/
theorem busReadMap : Obligations.BusReadMap := by
  refine fun a s => ⟨fun h => busRead_inRam (by omega) s, fun h h' => busRead_window_mirror h h' s,
    fun h h' reg => ?writeOnly, fun h h' reg => ?status, fun h h' reg => ?oam,
    fun h h' => ⟨?external, fun b listed => ?answer⟩, fun h h' => busRead_openBus h (by omega) s, fun h => ?program⟩
  case writeOnly =>
    simp only [List.mem_cons, List.not_mem_nil, or_false] at reg
    obtain reg | reg | reg | reg | reg := reg <;> rw [busRead_window h h', reg] <;> rfl
  case status => rw [busRead_window h h', reg]; rfl
  case oam => rw [busRead_window h h', reg]; rfl
  case external => rw [busRead_external h h', extRead_state]
  case answer => rw [busRead_external h h', extRead_listed listed]
  case program =>
    rw [busRead_prg h]
    cases banks : s.cart.prgBanks <;> simp [prgIndex, prgSize, banks]

/-- Settles O41: one range of the decoder after the other. -/
theorem busWriteMap : Obligations.BusWriteMap := by
  refine fun a v s hwf => ⟨fun h => ⟨_, busWrite_inRam (by omega) v s, wf_writeCell hwf _ v,
      fun k => readCell_writeCell hwf _ k v⟩, fun h h' => busWrite_window_mirror h h' v s, fun h h' reg => ?status,
    fun h h' notDma => busWrite_external h h' notDma v s, fun h => busWrite_ignored h v s⟩
  case status => rw [busWrite_window h h', reg]; rfl

/-! ## The sprite DMA controller -/

theorem busWrite_dma (v : Byte) (s : State) : busWrite 0x4014 v s = oamDma v s := rfl

theorem dmaCost_eq (cyc : Nat) : dmaCost cyc = if cyc % 2 = 0 then 513 else 514 := by
  unfold dmaCost
  split <;> omega

theorem sized_dmaOam (page : Byte) {s : State} (h : sized 256 s.ppu.oam = true) (n : Nat) :
    sized 256 (dmaOam page s n) = true := by
  induction n with
  | zero => exact h
  | succ n ih => exact sized_writeCell ih (BitVec.isLt _) _

/-- The bytes of a transfer from a RAM page land on distinct cells, so each stays where it was put (R60). -/
theorem readCell_dmaOam (page : Byte) {s : State} (h : sized 256 s.ppu.oam = true) {n i : Nat} (hn : n ≤ 256)
    (hi : i < n) :
    readCell (dmaOam page s n) ((s.ppu.oamAddr.toNat + i) % 256)
      = readCell s.ram ((256 * page.toNat + i) % 0x800) := by
  induction n with
  | zero => exact absurd hi (Nat.not_lt_zero i)
  | succ n ih =>
    have cell : (s.ppu.oamAddr + BitVec.ofNat 8 n).toNat = (s.ppu.oamAddr.toNat + n) % 256 := by
      rw [BitVec.toNat_add, BitVec.toNat_ofNat]
      omega
    rw [dmaOam, readCell_writeCell (sized_wf (sized_dmaOam page h n)), cell]
    obtain rfl | before : i = n ∨ i < n := by omega
    · rw [if_pos rfl, ramIndex, page_toNat, BitVec.toNat_ofNat, Nat.mod_eq_of_lt (b := 2 ^ 8) (by omega)]
    · rw [if_neg (by omega)]
      exact ih (by omega) before

/-- A whole transfer turns `oam_addr` around once (R60). -/
theorem add_ofNat_256 (b : Byte) : b + BitVec.ofNat 8 256 = b := BitVec.add_zero b

/-- Settles O42: the closed form of a transfer from RAM, and the frame of one from any page. -/
theorem dmaCopiesAPage : Obligations.DmaCopiesAPage := by
  refine ⟨fun v s hinv page => ?ram, fun v s => ?any⟩
  case ram =>
    obtain ⟨-, -, ppu, -⟩ := (inv_iff s).mp hinv
    obtain ⟨-, -, oam, -⟩ := (ppuOk_iff _ _).mp ppu
    refine ⟨dmaOam v s 256, ?_, sized_dmaOam v oam 256, fun i => readCell_dmaOam v oam le_rfl⟩
    rw [busWrite_dma, oamDma, dmaBytes_fromRam page, dmaCost_eq, add_ofNat_256]
    rfl
  case any =>
    rw [busWrite_dma, oamDma, dmaCost_eq]
    simp [dmaBytes_oamAddr]

end Sys2Proof.Claims
end

section
/-! The cycles an instruction charges (spec/40_step_addressing.md R104, R105; spec/30_encoding.md R85, R87): what each
access class adds, against the opcode matrix. -/

namespace Sys2Proof.Claims

open Sys2Proof.Machine

/-! ## The mode of an encoding (R81, R83) -/

/-- The format of a mode. -/
def modeFormat : Mode → Format
  | .zp _ => .zp
  | .zpx _ => .zpx
  | .zpy _ => .zpy
  | .abs _ => .abs
  | .abx _ => .abx
  | .aby _ => .aby
  | .ind _ => .ind
  | .izx _ => .izx
  | .izy _ => .izy

/-- The operand bytes of a mode. -/
def modeBytes : Mode → List Byte
  | .zp b | .zpx b | .zpy b | .izx b | .izy b => [b]
  | .abs a | .abx a | .aby a | .ind a => [operandLo a, operandHi a]

/-- The claims' mode is the one whose bytes the encoding holds. -/
theorem modeOf_eq_some {i : Instr} {op : Byte} {m : Mode} (bytes : encode i = op :: modeBytes m)
    (format : opFormat op = modeFormat m) : modeOf i = some m := by
  have address (a : Addr) : operandHi a ++ operandLo a = a := operandAddr_operand a
  unfold modeOf
  rw [bytes]
  cases m <;> simp [modeBytes, format, modeFormat, address]

/-- An instruction of one byte has no mode: implied and accumulator rows. -/
theorem modeOf_eq_none {i : Instr} {op : Byte} (bytes : encode i = [op]) : modeOf i = none := by
  unfold modeOf
  rw [bytes]

/-! ## Rows of the matrix -/

/-- The instruction's opcode byte is no branch and has these entries in the matrix: base cycles, the page-cross mark,
and whether its mnemonic stores. -/
structure MatrixEntries (i : Instr) (op : Byte) (operand : List Byte) (base : Nat) (penalty stores : Bool) : Prop where
  bytes : encode i = op :: operand
  cycles : opCycles op = base
  penalty : opPenalty op = penalty
  stores : storingMnemonics.contains (opMnemonic op) = stores
  notBranch : ∀ p, branchTaken op p = none

/-- The table's count of a row without the page-cross mark that stores nothing. -/
theorem MatrixEntries.cyclesByTable_plain {i : Instr} {op : Byte} {operand : List Byte}
    {base : Nat} (entries : MatrixEntries i op operand base false false) (s : State) : cyclesByTable i s = base := by
  obtain ⟨bytes, cycles, penalty, stores, notBranch⟩ := entries
  unfold cyclesByTable
  simp only [bytes, List.headD_cons, cycles, penalty, stores, notBranch]
  cases modeOf i <;> simp

/-- The table's count of a row of one byte. -/
theorem MatrixEntries.cyclesByTable_implied {i : Instr} {op : Byte} {base : Nat} {penalty stores : Bool}
    (entries : MatrixEntries i op [] base penalty stores) (s : State) : cyclesByTable i s = base := by
  obtain ⟨bytes, cycles, -, -, notBranch⟩ := entries
  unfold cyclesByTable
  simp only [modeOf_eq_none bytes, bytes, List.headD_cons, cycles, notBranch, Nat.add_zero]

/-- The table's count of a row with an effective address. -/
theorem MatrixEntries.cyclesByTable_mode {i : Instr} {op : Byte} {operand : List Byte} {base : Nat}
    {penalty stores : Bool} {m : Mode} (entries : MatrixEntries i op operand base penalty stores) (mode : modeOf i = some m) (s : State) :
    cyclesByTable i s = base + (if penalty && (resolve m s).crossed then 1 else 0)
      + (if stores then dmaExtra (resolve m s).ea s.cyc else 0) := by
  obtain ⟨bytes, cycles, penalty, stores, notBranch⟩ := entries
  unfold cyclesByTable
  simp only [bytes, List.headD_cons, cycles, penalty, stores, notBranch, mode]
  exact Nat.add_assoc _ _ _ |>.symm

/-! ## What each access class charges (R105) -/

theorem resolve_cyc (m : Mode) (s : State) : (resolve m s).state.cyc = s.cyc :=
  ((Moves.start.resolve m).fixed).1

theorem readInstr_cycles {op : Byte → State → State} (hop : ∀ v u, (op v u).cycles = u.cycles) (base : Nat)
    (pen : Bool) (m : Mode) (s : State) :
    (readInstr base pen m op s).cycles = base + (if pen && (resolve m s).crossed then 1 else 0) := by
  unfold readInstr chargeCross
  simp only [resolve_setCycles]
  split <;> simp [hop _ _]

theorem writeInstr_cycles (base : Nat) (m : Mode) (val : Cpu → Byte) (s : State) :
    (writeInstr base m val s).cycles = base + dmaExtra (resolve m s).ea s.cyc := by
  rw [writeInstr_eq, resolve_cyc, dmaExtra_eq]

theorem rmwInstr_cycles {fin : Byte → Byte → State → State} (hfin : ∀ v r u, (fin v r u).cycles = u.cycles)
    (base : Nat) (m : Mode) (res : Byte → Byte → Byte) (s : State) :
    (rmwInstr base m res fin s).cycles = base + dmaExtra (resolve m s).ea s.cyc := by
  unfold rmwInstr
  simp only [resolve_setCycles, hfin _ _ _, busWrite_cycles, busRead_cycles, busRead_cyc, setCycles_cycles,
    setCycles_cyc, resolve_cyc, dmaExtra_eq]

theorem resolveInstr_cycles (base : Nat) (m : Mode) (s : State) : (resolveInstr base m s).cycles = base := by
  rw [resolveInstr, resolve_setCycles]
  rfl

theorem jumpInstr_cycles (base : Nat) (m : Mode) (s : State) : (jumpInstr base m s).cycles = base := by
  rw [jumpInstr_eq]

/-! ## The classes against the matrix -/

section Classes

variable {i : Instr} {op : Byte} {operand : List Byte} {base : Nat} {s : State} {m : Mode}

theorem readInstr_charges {f : Byte → State → State} {pen : Bool}
    (entries : MatrixEntries i op (modeBytes m) base pen false)
    (format : opFormat op = modeFormat m) (hf : ∀ v u, (f v u).cycles = u.cycles) :
    (readInstr base pen m f s).cycles = cyclesByTable i s := by
  rw [readInstr_cycles hf, entries.cyclesByTable_mode (modeOf_eq_some entries.bytes format)]
  rfl

theorem writeInstr_charges {val : Cpu → Byte} (entries : MatrixEntries i op (modeBytes m) base false true)
    (format : opFormat op = modeFormat m) :
    (writeInstr base m val s).cycles = cyclesByTable i s := by
  rw [writeInstr_cycles, entries.cyclesByTable_mode (modeOf_eq_some entries.bytes format)]
  rfl

theorem rmwInstr_charges {res : Byte → Byte → Byte} {fin : Byte → Byte → State → State}
    (entries : MatrixEntries i op (modeBytes m) base false true)
    (format : opFormat op = modeFormat m) (hfin : ∀ v r u, (fin v r u).cycles = u.cycles) :
    (rmwInstr base m res fin s).cycles = cyclesByTable i s := by
  rw [rmwInstr_cycles hfin, entries.cyclesByTable_mode (modeOf_eq_some entries.bytes format)]
  rfl

theorem immInstr_charges {f : Byte → State → State} {b : Byte}
    (entries : MatrixEntries i op operand base false false) (hf : ∀ v u, (f v u).cycles = u.cycles) : (immInstr base b f s).cycles = cyclesByTable i s :=
  (hf b _).trans (entries.cyclesByTable_plain s).symm

theorem regInstr_charges {f : State → State} {stores : Bool} (entries : MatrixEntries i op [] base false stores)
    (hf : ∀ u, (f u).cycles = u.cycles) : (regInstr base f s).cycles = cyclesByTable i s :=
  (hf _).trans (entries.cyclesByTable_implied s).symm

theorem resolveInstr_charges (entries : MatrixEntries i op operand base false false) :
    (resolveInstr base m s).cycles = cyclesByTable i s :=
  (resolveInstr_cycles base m s).trans (entries.cyclesByTable_plain s).symm

theorem jumpInstr_charges (entries : MatrixEntries i op operand base false false) :
    (jumpInstr base m s).cycles = cyclesByTable i s :=
  (jumpInstr_cycles base m s).trans (entries.cyclesByTable_plain s).symm

/-- A branch charges its extra cycles by its own condition and target (R205). -/
theorem branchInstr_charges {taken : Byte → Bool} {off : Byte} (bytes : encode i = [op, off])
    (format : opFormat op = .rel) (cycles : opCycles op = 2)
    (condition : ∀ p, branchTaken op p = some (taken p)) :
    (branchInstr taken off s).cycles = cyclesByTable i s := by
  have mode : modeOf i = none := by
    unfold modeOf
    rw [bytes]
    simp [format]
  rw [branchInstr_eq]
  unfold cyclesByTable
  simp only [bytes, mode, List.headD_cons, cycles, condition, List.getD_cons_succ, List.getD_cons_zero]
  cases taken s.cpu.p
  · rfl
  · simp only [if_true, branchTarget, eq_comm]
    split <;> rfl

end Classes

/-! ## The instructions that go to the stack -/

theorem push_cycles (v : Byte) (u : State) : (push v u).cycles = u.cycles := by rw [push_eq]

theorem opPla_cycles (u : State) : (opPla u).cycles = u.cycles := by rw [opPla_eq]

theorem opPlp_cycles (u : State) : (opPlp u).cycles = u.cycles := by rw [opPlp_eq]

theorem callSub_cycles (a : Addr) (u : State) : (callSub a u).cycles = u.cycles := by rw [callSub_eq]

theorem opRts_cycles (u : State) : (opRts u).cycles = u.cycles := by rw [opRts_eq]

theorem opRti_cycles (u : State) : (opRti u).cycles = u.cycles := by rw [opRti_eq]

theorem enterInterrupt_cycles (k : Interrupt) (u : State) : (enterInterrupt k u).cycles = 7 := rfl

/-! ## The obligations -/

/-- Settles O4: each instruction is of one access class, and charges what the class does with the matrix's entries. -/
theorem cyclesAreTheMatrix : Obligations.CyclesAreTheMatrix := by
  intro i s
  cases i with
  | pha => exact ⟨_, rfl, regInstr_charges ⟨rfl, rfl, rfl, rfl, fun _ => rfl⟩ fun u => push_cycles u.cpu.a u⟩
  | php =>
    exact ⟨_, rfl, regInstr_charges ⟨rfl, rfl, rfl, rfl, fun _ => rfl⟩ fun u => push_cycles (packP true u.cpu.p) u⟩
  | pla => exact ⟨_, rfl, regInstr_charges ⟨rfl, rfl, rfl, rfl, fun _ => rfl⟩ opPla_cycles⟩
  | plp => exact ⟨_, rfl, regInstr_charges ⟨rfl, rfl, rfl, rfl, fun _ => rfl⟩ opPlp_cycles⟩
  | jsr a =>
    have entries : MatrixEntries (.jsr a) 0x20 _ 6 false false := ⟨rfl, rfl, rfl, rfl, fun _ => rfl⟩
    exact ⟨_, rfl, (callSub_cycles a _).trans (entries.cyclesByTable_plain s).symm⟩
  | rts => exact ⟨_, rfl, regInstr_charges ⟨rfl, rfl, rfl, rfl, fun _ => rfl⟩ opRts_cycles⟩
  | rti => exact ⟨_, rfl, regInstr_charges ⟨rfl, rfl, rfl, rfl, fun _ => rfl⟩ opRti_cycles⟩
  | brk =>
    have entries : MatrixEntries .brk 0x00 [] 7 false false := ⟨rfl, rfl, rfl, rfl, fun _ => rfl⟩
    exact ⟨_, exec_brk s, (enterInterrupt_cycles .brk s).trans (entries.cyclesByTable_plain s).symm⟩
  | bcc | bcs | beq | bne | bmi | bpl | bvc | bvs =>
    exact ⟨_, rfl, branchInstr_charges rfl rfl rfl fun _ => rfl⟩
  | jmpAbs | jmpInd => exact ⟨_, rfl, jumpInstr_charges ⟨rfl, rfl, rfl, rfl, fun _ => rfl⟩⟩
  -- `exec` of every other instruction is literally one of the six classes, which `first` reads off.
  | _ =>
    refine ⟨_, rfl, ?_⟩
    with_reducible first
      | apply readInstr_charges
      | apply writeInstr_charges
      | apply rmwInstr_charges
      | apply immInstr_charges
      | apply regInstr_charges
      | apply resolveInstr_charges
    · exact ⟨rfl, rfl, rfl, rfl, fun _ => rfl⟩
    all_goals (intros; rfl)

/-- No opcode byte takes fewer than two cycles, and nothing lowers the count (R87, R104). -/
theorem two_le_cyclesByTable (i : Instr) (s : State) : 2 ≤ cyclesByTable i s := by
  have base : ∀ op, 2 ≤ opCycles op := by decide
  exact (base ((encode i).headD 0)).trans ((Nat.le_add_right _ _).trans (Nat.le_add_right _ _))

/-- Settles O60: the clock adds the count to `cyc` and emits its ticks; the moves before it do neither, and end in an
entry's seven cycles or an instruction's count. -/
theorem cycGrowsByTheStepsCycles : Obligations.CycGrowsByTheStepsCycles := by
  intro s t hnoReset hstep
  obtain ⟨u, hmoves, rfl, origin⟩ := step_cases_of_noReset hnoReset hstep
  refine ⟨?cyc, ?ticks, ?least⟩
  case cyc => exact congrArg (· + u.cycles) hmoves.fixed.1
  case ticks =>
    have before : u.events.count .audioTick = 0 := hmoves.ticks
    rw [clock_eq]
    dsimp only
    rw [List.count_append, before, count_audioTick_clockEvents, Nat.zero_add]
  case least =>
    change 2 ≤ u.cycles
    obtain ⟨k, rfl⟩ | ⟨i, v, -, hexec⟩ := origin
    · rw [enterInterrupt_cycles]
      decide
    · obtain ⟨w, hexec', counted⟩ := cyclesAreTheMatrix i v
      cases hexec.symm.trans hexec'
      rw [counted]
      exact two_le_cyclesByTable i v

end Sys2Proof.Claims
end

section
/-! The dot's flags, the idle dots and sprite evaluation (spec/61_picture_unit.md R340 to R346, R355, R361 to R363,
R372). -/

namespace Sys2Proof.Claims

open Sys2Proof.Machine

/-! ## The dot before its status flags (R340) -/

/-- What a dot does of the picture: on the render lines the pipeline, the pixel and the sprites, elsewhere nothing. -/
def rendered (c : Cartridge) (p : Ppu) : Ppu :=
  if p.scanline ≤ 239 ∨ p.scanline = 261 then renderLineDot c p else p

theorem ppuTick_eq_rendered (c : Cartridge) (p : Ppu) :
    ppuTick c p = advance (renderingEnabled p) (statusDot (rendered c p)) := rfl

theorem rendered_renderLine (c : Cartridge) {p : Ppu} (h : p.scanline ≤ 239 ∨ p.scanline = 261) :
    rendered c p = renderLineDot c p := if_pos h

theorem rendered_idle (c : Cartridge) {p : Ppu} (h : 240 ≤ p.scanline) (h' : p.scanline ≤ 260) : rendered c p = p :=
  if_neg (by omega)

/-- Rendering leaves the position and the vertical-blank flag. -/
theorem rendered_position (c : Cartridge) (p : Ppu) :
    (rendered c p).scanline = p.scanline ∧ (rendered c p).dot = p.dot ∧ (rendered c p).vblank = p.vblank := by
  unfold rendered
  split
  · obtain ⟨-, scanline, dot, -, -, vblank⟩ := renderLineDot_frame c p
    exact ⟨scanline, dot, vblank⟩
  · exact ⟨rfl, rfl, rfl⟩

/-! ## The status flags (R345, R346) -/

theorem vblankDot_iff (p : Ppu) : vblankDot p = true ↔ p.scanline = 241 ∧ p.dot = 1 := by
  simp [vblankDot]

theorem clearDot_iff (p : Ppu) : clearDot p = true ↔ p.scanline = 261 ∧ p.dot = 1 := by
  simp [clearDot]

theorem statusDot_quiet {p : Ppu} (set : ¬ (p.scanline = 241 ∧ p.dot = 1))
    (clear : ¬ (p.scanline = 261 ∧ p.dot = 1)) :
    statusDot p = p := by
  rw [statusDot, if_neg (mt (vblankDot_iff p).mp set), if_neg (mt (clearDot_iff p).mp clear)]

theorem statusDot_set {p : Ppu} (h : p.scanline = 241 ∧ p.dot = 1) : statusDot p = { p with vblank := true } := by
  rw [statusDot, if_pos ((vblankDot_iff p).mpr h)]

theorem statusDot_clear {p : Ppu} (h : p.scanline = 261 ∧ p.dot = 1) :
    statusDot p = { p with vblank := false, spr0 := false, ovf := false } := by
  rw [statusDot, if_neg (mt (vblankDot_iff p).mp (by omega)), if_pos ((clearDot_iff p).mpr h)]

theorem statusDot_vblank (p : Ppu) :
    (statusDot p).vblank =
      if p.scanline = 241 ∧ p.dot = 1 then true else if p.scanline = 261 ∧ p.dot = 1 then false else p.vblank := by
  by_cases set : p.scanline = 241 ∧ p.dot = 1
  · rw [statusDot_set set, if_pos set]
  by_cases clear : p.scanline = 261 ∧ p.dot = 1
  · rw [statusDot_clear clear, if_neg set, if_pos clear]
  · rw [statusDot_quiet set clear, if_neg set, if_neg clear]

/-- The advance moves no flag, no memory and not the selected sprites (R342). -/
theorem advance_flags (r : Bool) (p : Ppu) :
    (advance r p).vblank = p.vblank ∧ (advance r p).spr0 = p.spr0 ∧ (advance r p).ovf = p.ovf
      ∧ (advance r p).fb = p.fb ∧ (advance r p).lineSprites = p.lineSprites := by
  rw [advance_frame]
  exact ⟨rfl, rfl, rfl, rfl, rfl⟩

theorem frameEvents_one (c : Cartridge) (p : Ppu) :
    frameEvents c 1 p = if vblankDot p then [.frameReady p.fb] else [] :=
  List.append_nil _

/-- Settles O49: only the two status dots touch the flags, and the first of them hands the frame over. -/
theorem vblankFlagEdges : Obligations.VblankFlagEdges := by
  intro c p
  obtain ⟨scanline, dot, vblank⟩ := rendered_position c p
  refine ⟨?flag, ?line, fun h261 h1 => ?cleared, fun h241 h1 => ⟨?handed, ?kept⟩, fun other => ?none⟩
  case flag =>
    rw [ppuTick_eq_rendered, (advance_flags _ _).1, statusDot_vblank, scanline, dot, vblank]
  case line => exact congrArg (fun b : Byte => (ppuTick c p).vblank && b.getLsbD 7) (ppuTick_frame c p).nmiEnable
  case cleared =>
    obtain ⟨-, spr0, ovf, -⟩ := advance_flags (renderingEnabled p) (statusDot (rendered c p))
    rw [ppuTick_eq_rendered, spr0, ovf, statusDot_clear ⟨scanline.trans h261, dot.trans h1⟩]
    exact ⟨rfl, rfl⟩
  case handed => rw [frameEvents_one, if_pos ((vblankDot_iff p).mpr ⟨h241, h1⟩)]
  case kept => rw [ppuTick_fb, if_neg (by omega)]
  case none => rw [frameEvents_one, if_neg (mt (vblankDot_iff p).mp other)]

/-! ## Idle dots (R344, R355) -/

/-- With rendering disabled a dot leaves the pipeline and the memories but the frame buffer (R355). -/
theorem outputFrame_renderLineDot (c : Cartridge) {p : Ppu} (disabled : renderingEnabled p = false) :
    OutputFrame p (renderLineDot c p) := by
  have pixel : OutputFrame p (if p.scanline ≤ 239 ∧ 1 ≤ p.dot ∧ p.dot ≤ 256 then emitPixel p else p) := by
    split
    · exact .emitPixel p
    · exact .refl p
  rw [renderLineDot, disabled]
  split
  · exact pixel.trans (.spriteEvaluate c _)
  · exact pixel

theorem spriteEvaluate_lineSprites (c : Cartridge) (p : Ppu) :
    (spriteEvaluate c p).lineSprites =
      if p.scanline = 261 then []
      else if !renderingEnabled p then spritesWhenDisabled p.lineSprites
      else ((spritesInRange p).take 8).map fun n => spriteFetch c p n (p.scanline - (oamByte p n 0).toNat) := by
  unfold spriteEvaluate
  split
  · rfl
  · split <;> rfl

theorem spriteEvaluate_ovf (c : Cartridge) (p : Ppu) :
    (spriteEvaluate c p).ovf =
      if p.scanline = 261 then p.ovf
      else if !renderingEnabled p then p.ovf
      else (p.ovf || decide (8 < (spritesInRange p).length)) := by
  unfold spriteEvaluate
  split
  · rfl
  · split <;> rfl

/-- Evaluation does not see the background pipeline (R361). -/
theorem spriteEvaluate_of_pipelineFrame (c : Cartridge) {p q : Ppu} (h : PipelineFrame p q) :
    (spriteEvaluate c q).lineSprites = (spriteEvaluate c p).lineSprites
      ∧ (spriteEvaluate c q).ovf = (spriteEvaluate c p).ovf := by
  unfold PipelineFrame at h
  rw [h, spriteEvaluate_lineSprites, spriteEvaluate_lineSprites, spriteEvaluate_ovf, spriteEvaluate_ovf]
  exact ⟨rfl, rfl⟩

/-- The pipeline's part of a dot of a render line (R340, R355). -/
theorem pipelineFrame_background (c : Cartridge) (p : Ppu) :
    PipelineFrame p (if renderingEnabled p then backgroundDot c p else p) := by
  split
  · exact backgroundDot_frame c p
  · exact .refl p

/-- Dot 257 evaluates the sprites (R361). -/
theorem renderLineDot_evaluates (c : Cartridge) {p : Ppu} (h : p.dot = 257) :
    (renderLineDot c p).lineSprites = (spriteEvaluate c p).lineSprites
      ∧ (renderLineDot c p).ovf = (spriteEvaluate c p).ovf := by
  rw [renderLineDot, if_pos h, if_neg (by omega)]
  exact spriteEvaluate_of_pipelineFrame c (pipelineFrame_background c p)

/-- No other dot touches the selected sprites. -/
theorem renderLineDot_keepsSprites (c : Cartridge) {p : Ppu} (h : p.dot ≠ 257) :
    (renderLineDot c p).lineSprites = p.lineSprites := by
  have background := pipelineFrame_background c p
  unfold PipelineFrame at background
  rw [renderLineDot, if_neg h]
  split
  · change (if renderingEnabled p then backgroundDot c p else p).lineSprites = _
    rw [background]
  · rw [background]

theorem ppuTick_lineSprites (c : Cartridge) (p : Ppu) :
    (ppuTick c p).lineSprites =
      if (p.scanline ≤ 239 ∨ p.scanline = 261) ∧ p.dot = 257 then (spriteEvaluate c p).lineSprites
      else p.lineSprites := by
  have status : (statusDot (rendered c p)).lineSprites = (rendered c p).lineSprites := by rw [statusDot_frame]
  obtain ⟨-, -, -, -, sprites⟩ := advance_flags (renderingEnabled p) (statusDot (rendered c p))
  rw [ppuTick_eq_rendered, sprites, status, rendered]
  by_cases line : p.scanline ≤ 239 ∨ p.scanline = 261
  · rw [if_pos line]
    by_cases evaluates : p.dot = 257
    · rw [if_pos ⟨line, evaluates⟩, (renderLineDot_evaluates c evaluates).1]
    · rw [if_neg fun h => evaluates h.2, renderLineDot_keepsSprites c evaluates]
  · rw [if_neg line, if_neg fun h => line h.1]

/-- Dot 257 of a render line is no status dot, so the overflow flag is evaluation's. -/
theorem ppuTick_ovf_evaluates (c : Cartridge) {p : Ppu} (line : p.scanline ≤ 239 ∨ p.scanline = 261)
    (h : p.dot = 257) : (ppuTick c p).ovf = (spriteEvaluate c p).ovf := by
  obtain ⟨scanline, dot, -⟩ := rendered_position c p
  obtain ⟨-, -, ovf, -⟩ := advance_flags (renderingEnabled p) (statusDot (rendered c p))
  rw [ppuTick_eq_rendered, ovf, statusDot_quiet (by omega) (by omega), rendered_renderLine c line]
  exact (renderLineDot_evaluates c h).2

/-- On the idle lines no dot changes more than the vertical-blank flag and the position (R344, R345). -/
theorem ppuTick_idle (c : Cartridge) {p : Ppu} (h : 240 ≤ p.scanline) (h' : p.scanline ≤ 260) :
    OutputFrame p (ppuTick c p)
      ∧ (ppuTick c p).fb = p.fb ∧ (ppuTick c p).spr0 = p.spr0 ∧ (ppuTick c p).ovf = p.ovf := by
  obtain ⟨-, spr0, ovf, fb, -⟩ := advance_flags (renderingEnabled p) (statusDot (rendered c p))
  rw [← ppuTick_eq_rendered] at spr0 ovf fb
  rw [spr0, ovf, fb, rendered_idle c h h']
  refine ⟨?frame, ?flags⟩
  case frame =>
    rw [ppuTick_eq_rendered, rendered_idle c h h']
    exact (OutputFrame.statusDot p).trans (.advance _ _)
  case flags =>
    by_cases set : p.scanline = 241 ∧ p.dot = 1
    · rw [statusDot_set set]
      exact ⟨rfl, rfl, rfl⟩
    · rw [statusDot_quiet set (by omega)]
      exact ⟨rfl, rfl, rfl⟩

/-- Rendering is disabled when both enable bits are clear (R22). -/
theorem renderingEnabled_eq_false {p : Ppu} (background : p.mask.getLsbD 3 = false)
    (sprites : p.mask.getLsbD 4 = false) : renderingEnabled p = false := by
  rw [renderingEnabled, maskShowBg, maskShowSpr, background, sprites]
  rfl

/-- With rendering disabled a dot leaves the selected sprites, or at dot 257 of a render line empties the list. -/
theorem ppuTick_lineSprites_disabled (c : Cartridge) {p : Ppu} (disabled : renderingEnabled p = false) :
    (ppuTick c p).lineSprites = p.lineSprites
      ∨ (ppuTick c p).lineSprites = [] ∧ p.dot = 257 ∧ (p.scanline ≤ 239 ∨ p.scanline = 261) := by
  rw [ppuTick_lineSprites]
  by_cases evaluates : (p.scanline ≤ 239 ∨ p.scanline = 261) ∧ p.dot = 257
  · rw [if_pos evaluates]
    obtain ⟨-, same⟩ | emptied := spriteEvaluate_disabled c disabled
    · rw [same]
      exact .inl rfl
    · rw [emptied]
      exact .inr ⟨rfl, evaluates.symm⟩
  · rw [if_neg evaluates]
    exact .inl rfl

/-- Settles O51: an idle line renders nothing; with rendering disabled only pixels and the emptying of the sprite list
are left. -/
theorem idleDotsLeaveTheMemories : Obligations.IdleDotsLeaveTheMemories := by
  intro c p idle
  have sprites := ppuTick_lineSprites c p
  refine ⟨ppuTick c p, ?frame, fun h h' => (ppuTick_idle c h h').2, ?list, fun h261 h257 => ?emptied⟩
  case frame =>
    obtain ⟨h, h'⟩ | ⟨noBackground, noSprites⟩ := idle
    · exact (ppuTick_idle c h h').1
    · have disabled := renderingEnabled_eq_false noBackground noSprites
      have picture : OutputFrame p (rendered c p) := by
        unfold rendered
        split
        · exact outputFrame_renderLineDot c disabled
        · exact .refl p
      exact (picture.trans (.statusDot _)).trans (.advance _ _)
  case list =>
    obtain ⟨h, h'⟩ | ⟨noBackground, noSprites⟩ := idle
    · exact .inl (sprites.trans (if_neg (by omega)))
    · exact ppuTick_lineSprites_disabled c (renderingEnabled_eq_false noBackground noSprites)
  case emptied =>
    rw [sprites, if_pos ⟨.inr h261, h257⟩, spriteEvaluate_preRender c h261]

/-! ## Sprite evaluation (R361 to R363) -/

/-- The bytes of a sprite flipped horizontally (R363). -/
theorem getLsbD_bitReverse8 (b : Byte) {k : Nat} (h : k < 8) : (bitReverse8 b).getLsbD k = b.getLsbD (7 - k) := by
  unfold bitReverse8
  simp only [BitVec.getLsbD_append, BitVec.getLsbD_ofBool]
  interval_cases k <;> rfl

/-- A fetched pattern byte, flipped when bit 6 of its attributes is set (R363). -/
theorem getLsbD_flipped (flip : Bool) (b : Byte) {k : Nat} (h : k < 8) :
    (if flip then bitReverse8 b else b).getLsbD k = b.getLsbD (if flip then 7 - k else k) := by
  cases flip
  · rfl
  · exact getLsbD_bitReverse8 b h

/-- `SpriteFetch` makes the record of its sprite (R363). -/
theorem isRecordOf_spriteFetch (c : Cartridge) (p : Ppu) {n : Nat} (h : n < 64) :
    IsRecordOf c p n (spriteFetch c p n (p.scanline - (oamByte p n 0).toNat)) := by
  refine ⟨_, rfl, ?_, rfl, rfl, fun k hk => ⟨?_, ?_⟩⟩
  · exact (BitVec.toNat_ofNat n 6).trans (Nat.mod_eq_of_lt h)
  · exact getLsbD_flipped _ _ hk
  · exact getLsbD_flipped _ _ hk

theorem mem_spritesInRange_iff (p : Ppu) (n : Nat) : n ∈ spritesInRange p ↔ n < 64 ∧ coversNextLine p n := by
  have height : spriteHeight p = if p.ctrl.getLsbD 5 then 16 else 8 := rfl
  unfold spritesInRange spriteInRange coversNextLine
  rw [List.mem_filter, List.mem_range, decide_eq_true_iff, height]
  change _ ∧ ((readCell p.oam (4 * n)).toNat ≤ _ ∧ _ - (readCell p.oam (4 * n)).toNat < _) ↔ _
  omega

theorem spriteEvaluate_enabled (c : Cartridge) {p : Ppu} (visible : p.scanline ≤ 239)
    (rendering : renderingEnabled p = true) :
    (spriteEvaluate c p).lineSprites
        = ((spritesInRange p).take 8).map (fun n => spriteFetch c p n (p.scanline - (oamByte p n 0).toNat))
      ∧ (spriteEvaluate c p).ovf = (p.ovf || decide (8 < (spritesInRange p).length)) := by
  have noPreRender : ¬ p.scanline = 261 := by omega
  rw [spriteEvaluate_lineSprites, spriteEvaluate_ovf, if_neg noPreRender, if_neg noPreRender, rendering]
  exact ⟨rfl, rfl⟩

/-- Settles O54: the four cases of evaluation; with rendering enabled the sprites in range are the selection. -/
theorem spriteEvaluationSelectsEight : Obligations.SpriteEvaluationSelectsEight := by
  intro c p line
  have sprites := ppuTick_lineSprites c p
  refine ⟨fun other => ?other, fun h257 pre => ?preRender, fun h257 visible disabled => ?disabled,
    fun h257 visible rendering => ?enabled⟩
  case other => rw [sprites, if_neg fun h => other h.2]
  case preRender =>
    rw [sprites, if_pos ⟨line, h257⟩, ppuTick_ovf_evaluates c line h257, spriteEvaluate_preRender c pre]
    exact ⟨rfl, rfl⟩
  case disabled =>
    rw [sprites, if_pos ⟨line, h257⟩, ppuTick_ovf_evaluates c line h257]
    obtain ⟨-, same⟩ | emptied := spriteEvaluate_disabled c disabled
    · rw [same]
      exact ⟨.inl rfl, rfl⟩
    · rw [emptied]
      exact ⟨.inr rfl, rfl⟩
  case enabled =>
    obtain ⟨selected, overflow⟩ := spriteEvaluate_enabled c visible rendering
    rw [sprites, if_pos ⟨line, h257⟩, ppuTick_ovf_evaluates c line h257, selected, overflow]
    refine ⟨spritesInRange p, List.pairwise_lt_range.filter _, mem_spritesInRange_iff p, ?length,
      fun i n r inRange record => ?record, rfl⟩
    case length => rw [List.length_map, List.length_take]
    case record =>
      have member := List.mem_of_getElem? inRange
      obtain ⟨below, -⟩ := (mem_spritesInRange_iff p n).mp member
      obtain ⟨m, taken, rfl⟩ := Option.map_eq_some_iff.mp (List.getElem?_map.symm.trans record)
      rw [List.getElem?_take, Option.ite_none_right_eq_some, inRange] at taken
      obtain rfl : n = m := Option.some.inj taken.2
      exact isRecordOf_spriteFetch c p below

end Sys2Proof.Claims
end

section
/-! The length of a frame in dots (spec/61_picture_unit.md R341 to R343). -/

namespace Sys2Proof.Claims

open Sys2Proof.Machine

/-- `n` dots after `p` the position is the `k`th of `p`'s frame, which was handed over when the position is past
scanline 241 dot 1, the 82182nd. -/
structure DotsTo (c : Cartridge) (p : Ppu) (n k : Nat) : Prop where
  position : framePosition (runDots c n p) = k
  dot : (runDots c n p).dot ≤ 340
  oddFrame : (runDots c n p).oddFrame = p.oddFrame
  frame : (runDots c n p).frame = p.frame
  events : (frameEvents c n p).length = if 82182 < k then 1 else 0

/-- The hand-over is made by the dot at the 82182nd position (R345). -/
theorem frameEvents_one_length (c : Cartridge) {p : Ppu} (h : p.dot ≤ 340) :
    (frameEvents c 1 p).length = if framePosition p = 82182 then 1 else 0 := by
  rw [frameEvents_one]
  unfold framePosition
  by_cases handed : p.scanline = 241 ∧ p.dot = 1
  · rw [if_pos ((vblankDot_iff p).mpr handed), if_pos (by omega)]
    rfl
  · rw [if_neg (mt (vblankDot_iff p).mp handed), if_neg (by omega)]
    rfl

/-- A dot before the last of a frame goes to the next position, or over dot 339 of the pre-render line on an odd frame
with rendering enabled (R342, R343). -/
theorem ppuTick_before_last (c : Cartridge) {p : Ppu} (dot : p.dot ≤ 340) (before : framePosition p < 89341) :
    framePosition (ppuTick c p) =
        framePosition p +
          (if framePosition p = 89339 ∧ p.oddFrame = true ∧ renderingEnabled p = true then 2 else 1)
      ∧ (ppuTick c p).dot ≤ 340 ∧ (ppuTick c p).oddFrame = p.oddFrame ∧ (ppuTick c p).frame = p.frame := by
  have position := ppuTick_position c p
  have parity := ppuTick_parity c p
  unfold framePosition at *
  rw [if_pos (by omega)] at parity
  obtain ⟨oddFrame, frame⟩ := Prod.mk.inj parity
  refine and_assoc.mp ⟨?_, oddFrame, frame⟩
  by_cases skips : p.scanline = 261 ∧ p.dot = 338 ∧ p.oddFrame = true ∧ renderingEnabled p = true
  · rw [if_pos skips] at position
    obtain ⟨scanline', dot'⟩ := Prod.mk.inj position
    rw [if_pos ⟨by omega, skips.2.2⟩]
    omega
  rw [if_neg skips] at position
  rw [if_neg fun ⟨at339, skipping⟩ => skips ⟨by omega, by omega, skipping⟩]
  by_cases line : p.dot < 340
  · rw [if_pos line] at position
    obtain ⟨scanline', dot'⟩ := Prod.mk.inj position
    omega
  · rw [if_neg line, if_pos (by omega)] at position
    obtain ⟨scanline', dot'⟩ := Prod.mk.inj position
    omega

/-- The last dot of a frame goes to the first of the next (R342). -/
theorem ppuTick_last (c : Cartridge) {p : Ppu} (dot : p.dot ≤ 340) (last : framePosition p = 89341) :
    ((ppuTick c p).scanline = 0 ∧ (ppuTick c p).dot = 0)
      ∧ (ppuTick c p).oddFrame = !p.oddFrame ∧ (ppuTick c p).frame = p.frame + 1 := by
  have position := ppuTick_position c p
  have parity := ppuTick_parity c p
  unfold framePosition at last
  rw [if_neg (by omega), if_neg (by omega), if_neg (by omega)] at position
  rw [if_neg (by omega)] at parity
  exact ⟨Prod.mk.inj position, Prod.mk.inj parity⟩

theorem DotsTo.zero (c : Cartridge) {p : Ppu} (scanline : p.scanline = 0) (dot : p.dot = 0) : DotsTo c p 0 0 where
  position := by rw [runDots, framePosition, scanline, dot]
  dot := dot.trans_le (Nat.zero_le _)
  oddFrame := rfl
  frame := rfl
  events := rfl

/-- One more dot before the last of a frame. -/
theorem DotsTo.next {c : Cartridge} {p : Ppu} {n k : Nat} (h : DotsTo c p n k) (before : k < 89341) :
    DotsTo c p (n + 1) (k + if k = 89339 ∧ p.oddFrame = true ∧ renderingEnabled p = true then 2 else 1) := by
  obtain ⟨position, dot, oddFrame, frame, events⟩ := h
  have rendering := (runDots_frame c n p).renderingEnabled
  obtain ⟨position', dot', oddFrame', frame'⟩ := ppuTick_before_last c dot (position.trans_lt before)
  have event := frameEvents_one_length c dot
  rw [position] at event
  rw [position, oddFrame, rendering] at position'
  constructor
  case position => rwa [runDots_add]
  case dot => rwa [runDots_add]
  case oddFrame => rwa [runDots_add, ← oddFrame]
  case frame => rwa [runDots_add, ← frame]
  case events =>
    rw [frameEvents_add, List.length_append, events, event]
    split_ifs <;> omega

theorem DotsTo.before_skip {c : Cartridge} {p : Ppu} (start : DotsTo c p 0 0) {k : Nat} (h : k ≤ 89339) :
    DotsTo c p k k := by
  induction k with
  | zero => exact start
  | succ k ih =>
    have next := (ih (by omega)).next (by omega)
    rwa [if_neg (by omega)] at next

/-- The dots from the first of a frame to its last (R343). -/
theorem DotsTo.last {c : Cartridge} {p : Ppu} (start : DotsTo c p 0 0) :
    DotsTo c p (if p.oddFrame && renderingEnabled p then 89340 else 89341) 89341 := by
  have next := (start.before_skip le_rfl).next (by omega)
  by_cases skips : p.oddFrame = true ∧ renderingEnabled p = true
  · rw [if_pos (Bool.and_eq_true_iff.mpr skips)]
    rwa [if_pos ⟨rfl, skips⟩] at next
  · rw [if_neg (mt Bool.and_eq_true_iff.mp skips)]
    rw [if_neg fun h => skips h.2] at next
    have next := next.next (by omega)
    rwa [if_neg (by omega)] at next

theorem DotsTo.finish {c : Cartridge} {p : Ppu} {n : Nat} (h : DotsTo c p n 89341) :
    (runDots c (n + 1) p).scanline = 0 ∧ (runDots c (n + 1) p).dot = 0
      ∧ (runDots c (n + 1) p).oddFrame = !p.oddFrame ∧ (runDots c (n + 1) p).frame = p.frame + 1
      ∧ (frameEvents c (n + 1) p).length = 1 := by
  obtain ⟨position, dot, oddFrame, frame, events⟩ := h
  obtain ⟨⟨scanline', dot'⟩, oddFrame', frame'⟩ := ppuTick_last c dot position
  have event := frameEvents_one_length c dot
  rw [oddFrame] at oddFrame'
  rw [frame] at frame'
  rw [runDots_add, frameEvents_add, List.length_append, events, event, position]
  exact ⟨scanline', dot', oddFrame', frame', rfl⟩

/-- Settles O50: the frame's last position is reached one dot sooner when dot 339 is skipped. -/
theorem frameIs89342Dots : Obligations.FrameIs89342Dots := by
  intro c p n scanline dot length
  have finish := (DotsTo.zero c scanline dot).last.finish
  have dots : n = (if p.oddFrame && renderingEnabled p then 89340 else 89341) + 1 := by
    rw [length]
    change (if p.oddFrame && renderingEnabled p then _ else _) = _
    split <;> rfl
  rwa [dots]

end Sys2Proof.Claims
end
